-- ==== Sys2Proof/Word.lean ====
section
/-! DEFINITION. The element word: every program element, every returned data element and every register is one byte
(spec/20_memory.md R43, spec/30_encoding.md R60). -/

namespace Sys2Proof

/-- One element: "A *byte* is an integer in 0..255. Bit 0 is the least significant bit" (00_scope.md R12). -/
abbrev Byte := BitVec 8

/-- A number placed as one element; callers place only numbers below 256 (30_encoding.md R65: "placed as a plain byte"). -/
abbrev byte (n : Nat) : Byte := BitVec.ofNat 8 n

end Sys2Proof
end

