-- ==== Sys2Proof/Config.lean ====
section
/-! DEFINITION. The parameters of spec/00_scope.md: the fixed values of R9, and the open values of R10 as ONE record that an
instance of the block is given (State carries it as `cfg`; no operation writes it, 10_state.md R20). -/

namespace Sys2Proof

/-! ## Values the source fixes (R9) -/

/-- `ADDR_PT`: bus address of the pressure/altitude/temperature device. -/
abbrev addrPt : Nat := 0x60
/-- `ADDR_HT`: bus address of the humidity/temperature device. -/
abbrev addrHt : Nat := 0x40
/-- `PT_READY_BIT`: the bit of the PT status byte that means ready. -/
abbrev ptReadyBit : Nat := 3
/-- `PT_STATUS_LEN`: length requested by the PT readiness read. -/
abbrev ptStatusLen : Nat := 1
/-- `PT_DATA_LEN`: length requested by the PT data read. -/
abbrev ptDataLen : Nat := 5
/-- `PT_RAW_LEN`: length the PT decoders require. -/
abbrev ptRawLen : Nat := 6
/-- `HT_DATA_LEN`: length requested by the HT data read and required by the HT decoders. -/
abbrev htDataLen : Nat := 4
/-- `TWOS_WIDTH_PT`: width at which the altitude decoder uses the two's-complement helper. -/
abbrev twosWidthPt : Nat := 24
/-- `POLL_INTERVAL` in seconds: documentation only, the model has no time (70_reset_and_hazards.md R205). -/
abbrev pollInterval : Nat := 1

/-! ## Values the source leaves open (R10) -/

/-- `MAX_POLLS`: `UNBOUNDED` or an integer of at least 1. -/
inductive MaxPolls where
  | unbounded
  | bound (k : Nat)
  deriving DecidableEq, Repr

/-- The named parameters of R10, one field each. `HT_SETUP` is two bytes in emission order (D27). -/
structure Config where
  busSda : Nat
  busScl : Nat
  busBitrate : Nat
  busId : Nat
  ptRegStatus : Byte
  ptRegData : Byte
  ptRegCtrl : Byte
  ptRegDataflag : Byte
  ptDataflagEnable : Byte
  ptCtrlAltOs : Byte
  ptCtrlAltRun : Byte
  ptCtrlBarOs : Byte
  ptCtrlBarRun : Byte
  htRegControl : Byte
  htRegRead : Byte
  htSetup0 : Byte
  htSetup1 : Byte
  htReadyLen : Nat
  maxPolls : MaxPolls
  escapeWriteLength : Bool
  deriving DecidableEq, Repr

/-- The types R10 gives its parameters: `HT_READY_LEN` is 1..255 and a bounded `MAX_POLLS` is at least 1. -/
def Config.wf (c : Config) : Bool :=
  decide (1 ≤ c.htReadyLen) && decide (c.htReadyLen ≤ 255) && decide (c.maxPolls ≠ .bound 0)

/-- `CFG_REF`, the reference configuration of R10. The pins, the bit clock and the bus identifier have no `CFG_REF` value
(D30); 0 stands for them here and no rule reads them. DESIGN CHOICE, unsafe: notes/assumptions/1.md. -/
def Config.ref : Config where
  busSda := 0
  busScl := 0
  busBitrate := 0
  busId := 0
  ptRegStatus := 0x00
  ptRegData := 0x01
  ptRegCtrl := 0x26
  ptRegDataflag := 0x13
  ptDataflagEnable := 0x07
  ptCtrlAltOs := 0xB8
  ptCtrlAltRun := 0xB9
  ptCtrlBarOs := 0x38
  ptCtrlBarRun := 0x39
  htRegControl := 0x02
  htRegRead := 0x00
  htSetup0 := 0x10
  htSetup1 := 0x00
  htReadyLen := 4
  maxPolls := .unbounded
  escapeWriteLength := true

end Sys2Proof
end

