-- ==== Sys2Proof/Syntax.lean ====
section
/-! DEFINITION. The instructions: the eight transaction tokens (spec/30_encoding.md R61) and the thirty-five operations of the
command port (R71), one constructor per row of spec/opcode_table.json, with the operands R69 and file 40_tokens.md give. -/

namespace Sys2Proof

/-- A channel operand: `CH_P` (0) or `CH_H` (1) (R69, 00_scope.md R11). -/
inductive Channel where
  | P
  | H
  deriving DecidableEq, Repr

/-- A mode operand: 1 for Altitude and 2 for Barometric (R69). -/
inductive Mode where
  | altitude
  | barometric
  deriving DecidableEq, Repr

/-- The four program shapes (R63). -/
inductive Shape where
  | W
  | RC
  | SP
  | SR
  deriving DecidableEq, Repr

/-- What follows a WRITE token (40_tokens.md R87): in RC and SP `ESCAPE, r`; in W `[ESCAPE] c` and then the `c` bytes
`r, p0 … p(n−1)`. -/
inductive WriteArg where
  | pointer (r : Byte)
  | counted (r : Byte) (p : List Byte)
  deriving DecidableEq, Repr

/-- One instruction. `a` is a bus address, `r` a register, `l` a length, `p` a payload, `raw` a raw reading, `st` a transport
status and `d` transport data. Addresses, lengths, counts and the TWOS operands are numbers, so that an operand outside its
range can be issued and is refused by the operation (60_exceptions.md R175). -/
inductive Instr where
  -- transaction tokens (40_tokens.md R80 to R87)
  | tokEnd
  | tokEscape (x : Byte)
  | tokStart
  | tokStop
  | tokAddress (a : Nat)
  | tokFlags
  | tokRead (count : Nat)
  | tokWrite (arg : WriteArg)
  -- encoder and decoder (41_encoder.md R90 to R94)
  | encWrite (a : Nat) (r : Byte) (p : List Byte)
  | encReadComb (a : Nat) (r : Byte) (l : Nat)
  | encSplitPtr (a : Nat) (r : Byte)
  | encSplitRead (a : Nat) (l : Nat)
  | decResult (st : Int) (d : List Byte)
  -- channels (42_channel.md R100 to R106)
  | chOpen (ch : Channel)
  | chRead (ch : Channel) (a : Nat) (r : Byte) (l : Nat)
  | chWrite (ch : Channel) (a : Nat) (r : Byte) (p : List Byte)
  | chWrite1 (ch : Channel) (a : Nat) (r : Byte) (b : Byte)
  | chClose (ch : Channel)
  | pwSetPointer (a : Nat) (r : Byte)
  | pwReadAfterPointer (a : Nat) (l : Nat)
  -- pressure/altitude/temperature driver (43_pressure.md R111 to R120)
  | ptConstruct (mode : Mode)
  | ptSelectAltitude
  | ptSelectBarometric
  | ptIsReady
  | ptFetchRaw
  | ptDecodeAltitude (raw : List Byte)
  | ptDecodePressure (raw : List Byte)
  | ptDecodeTemperature (raw : List Byte)
  | ptClose
  -- humidity/temperature driver (44_humidity.md R130 to R139)
  | htConstruct
  | htIsReady
  | htFetchRaw
  | htConvTemperature (hi lo : Byte)
  | htConvHumidity (hi lo : Byte)
  | htDecodeTemperature (raw : List Byte)
  | htDecodeHumidity (raw : List Byte)
  | htClose
  -- two's-complement helper (43_pressure.md R110)
  | twos (w : Nat) (v : Int)
  -- measurement façade (45_measure.md R151 to R155)
  | mPressure
  | mAltitude
  | mTemperaturePt
  | mHumidity
  | mTemperatureHt
  deriving DecidableEq, Repr

/-- The transaction tokens, interface (a) of 00_scope.md R2; every other instruction is an operation of the command port. -/
def Instr.isToken : Instr → Bool
  | .tokEnd | .tokEscape _ | .tokStart | .tokStop | .tokAddress _ | .tokFlags | .tokRead _ | .tokWrite _ => true
  | .encWrite .. | .encReadComb .. | .encSplitPtr .. | .encSplitRead .. | .decResult .. => false
  | .chOpen _ | .chRead .. | .chWrite .. | .chWrite1 .. | .chClose _ | .pwSetPointer .. | .pwReadAfterPointer .. => false
  | .ptConstruct _ | .ptSelectAltitude | .ptSelectBarometric | .ptIsReady | .ptFetchRaw => false
  | .ptDecodeAltitude _ | .ptDecodePressure _ | .ptDecodeTemperature _ | .ptClose => false
  | .htConstruct | .htIsReady | .htFetchRaw | .htConvTemperature .. | .htConvHumidity .. => false
  | .htDecodeTemperature _ | .htDecodeHumidity _ | .htClose | .twos .. => false
  | .mPressure | .mAltitude | .mTemperaturePt | .mHumidity | .mTemperatureHt => false

end Sys2Proof
end

