-- ==== Sys2Proof/WellFormed.lean ====
section
/-! DEFINITION. Which instructions have a written form: a token within the operand ranges of spec/30_encoding.md R65, and an
operation whose operands fit the fields of its command frame (R69). An operand that fits its field but lies outside the
operation's domain (an address of 128, a length of 0) is well formed here and refused by the operation (R175). -/

namespace Sys2Proof

/-- A counted sequence: "a count byte 0..255 precedes the bytes" (R69). -/
def countFits (bs : List Byte) : Bool := decide (bs.length ≤ 255)

/-- A one-byte number field (R69). -/
def byteFits (n : Nat) : Bool := decide (n < 256)

/-- A status field: "a 4-byte big-endian two's-complement integer" (R69). -/
def statusFits (st : Int) : Bool := decide (-(2 ^ 31) ≤ st) && decide (st < 2 ^ 31)

/-- The TWOS operands: `w` one byte and `v` in `ceil(w/8)` bytes (R69). -/
def twosFits (w : Nat) (v : Int) : Bool :=
  byteFits w && decide (0 ≤ v) && decide (v < 256 ^ ((w + 7) / 8))

/-- The operand of a WRITE token within R65: `n` ranges over 1..254 in the counted form. -/
def WriteArg.wf : WriteArg → Bool
  | .pointer _ => true
  | .counted _ p => decide (1 ≤ p.length) && decide (p.length ≤ 254)

/-- Well-formedness of an instruction as syntax. -/
def Instr.wf : Instr → Bool
  | .tokEnd => true
  | .tokEscape _ => true
  | .tokStart => true
  | .tokStop => true
  | .tokAddress a => decide (a < 128)
  | .tokFlags => true
  | .tokRead c => decide (1 ≤ c) && decide (c ≤ 255)
  | .tokWrite arg => arg.wf
  | .encWrite a _ p => byteFits a && countFits p
  | .encReadComb a _ l => byteFits a && byteFits l
  | .encSplitPtr a _ => byteFits a
  | .encSplitRead a l => byteFits a && byteFits l
  | .decResult st d => statusFits st && countFits d
  | .chOpen _ => true
  | .chRead _ a _ l => byteFits a && byteFits l
  | .chWrite _ a _ p => byteFits a && countFits p
  | .chWrite1 _ a _ _ => byteFits a
  | .chClose _ => true
  | .pwSetPointer a _ => byteFits a
  | .pwReadAfterPointer a l => byteFits a && byteFits l
  | .ptConstruct _ => true
  | .ptSelectAltitude => true
  | .ptSelectBarometric => true
  | .ptIsReady => true
  | .ptFetchRaw => true
  | .ptDecodeAltitude raw => countFits raw
  | .ptDecodePressure raw => countFits raw
  | .ptDecodeTemperature raw => countFits raw
  | .ptClose => true
  | .htConstruct => true
  | .htIsReady => true
  | .htFetchRaw => true
  | .htConvTemperature _ _ => true
  | .htConvHumidity _ _ => true
  | .htDecodeTemperature raw => countFits raw
  | .htDecodeHumidity raw => countFits raw
  | .htClose => true
  | .twos w v => twosFits w v
  | .mPressure => true
  | .mAltitude => true
  | .mTemperaturePt => true
  | .mHumidity => true
  | .mTemperatureHt => true

end Sys2Proof
end

