-- ==== Sys2Proof/Decode.lean ====
section
/-! DEFINITION. The two encodings of spec/30_encoding.md. The command frame (R69 to R72): `decodeFrame`, total on any bytes,
refusing by name. The transaction program (R60 to R67): `decodeToken` and `decodeProgram`, which read a program of a GIVEN
shape, because bytes alone cannot always tell the shape (R64). After them the encoder, and the host's `decodeTableWord`. -/

namespace Sys2Proof

/-! ## Numbers in bytes (R69: "big-endian") -/

/-- The number a big-endian byte sequence stands for. -/
def natOfBE : List Byte → Nat
  | [] => 0
  | b :: bs => b.toNat * 256 ^ bs.length + natOfBE bs

/-- The low `n` bytes of a number, most significant first. -/
def bytesBE : Nat → Nat → List Byte
  | 0, _ => []
  | n + 1, v => byte (v / 256 ^ n) :: bytesBE n v

/-- `ceil(w/8)`, the number of bytes of the TWOS value field (R69). -/
def valueBytes (w : Nat) : Nat := (w + 7) / 8

/-! ## Token values (R61) -/

abbrev tokEND : Byte := 0x00
abbrev tokESCAPE : Byte := 0x01
abbrev tokSTART : Byte := 0x02
abbrev tokSTOP : Byte := 0x03
abbrev tokADDRESS : Byte := 0x04
abbrev tokFLAGS : Byte := 0x05
abbrev tokREAD : Byte := 0x06
abbrev tokWRITE : Byte := 0x07

/-! ## Opcodes (R71; for a token its value, R61) -/

/-- Byte 0 of an instruction. -/
def opcode : Instr → Byte
  | .tokEnd => tokEND
  | .tokEscape _ => tokESCAPE
  | .tokStart => tokSTART
  | .tokStop => tokSTOP
  | .tokAddress _ => tokADDRESS
  | .tokFlags => tokFLAGS
  | .tokRead _ => tokREAD
  | .tokWrite _ => tokWRITE
  | .encWrite .. => 0x01
  | .encReadComb .. => 0x02
  | .encSplitPtr .. => 0x03
  | .encSplitRead .. => 0x04
  | .decResult .. => 0x05
  | .chOpen _ => 0x10
  | .chRead .. => 0x11
  | .chWrite .. => 0x12
  | .chWrite1 .. => 0x13
  | .chClose _ => 0x14
  | .pwSetPointer .. => 0x15
  | .pwReadAfterPointer .. => 0x16
  | .ptConstruct _ => 0x20
  | .ptSelectAltitude => 0x21
  | .ptSelectBarometric => 0x22
  | .ptIsReady => 0x23
  | .ptFetchRaw => 0x24
  | .ptDecodeAltitude _ => 0x25
  | .ptDecodePressure _ => 0x26
  | .ptDecodeTemperature _ => 0x27
  | .ptClose => 0x28
  | .htConstruct => 0x30
  | .htIsReady => 0x31
  | .htFetchRaw => 0x32
  | .htConvTemperature .. => 0x33
  | .htConvHumidity .. => 0x34
  | .htDecodeTemperature _ => 0x35
  | .htDecodeHumidity _ => 0x36
  | .htClose => 0x37
  | .twos .. => 0x40
  | .mPressure => 0x50
  | .mAltitude => 0x51
  | .mTemperaturePt => 0x52
  | .mHumidity => 0x53
  | .mTemperatureHt => 0x54

/-- The opcodes of the command map (R71). -/
def commandOpcodes : List Byte :=
  [0x01, 0x02, 0x03, 0x04, 0x05, 0x10, 0x11, 0x12, 0x13, 0x14, 0x15, 0x16,
   0x20, 0x21, 0x22, 0x23, 0x24, 0x25, 0x26, 0x27, 0x28,
   0x30, 0x31, 0x32, 0x33, 0x34, 0x35, 0x36, 0x37, 0x40, 0x50, 0x51, 0x52, 0x53, 0x54]

/-! ## Decoding a command frame (R69 to R72) -/

/-- Why the command port refuses a frame (R72). -/
inductive FrameError where
  /-- "an opcode not in rule R71". -/
  | unknownOpcode
  /-- a bad `ch` or `mode`, a count that disagrees with the bytes that follow, a frame cut short. -/
  | badOperand
  deriving DecidableEq, Repr

/-- What reading a field answers: the field and the bytes after it, or the refusal. -/
abbrev Parse (α : Type) := Except FrameError (α × List Byte)

/-- Read one field and go on with the bytes after it. -/
def andThen {α β : Type} (p : Parse α) (f : α → List Byte → Parse β) : Parse β :=
  match p with
  | .error e => .error e
  | .ok (x, bs) => f x bs

/-- A one-byte field. -/
def takeByte : List Byte → Parse Byte
  | [] => .error .badOperand
  | b :: bs => .ok (b, bs)

/-- `ch`: "0 for `CH_P` and 1 for `CH_H`". -/
def takeChannel : List Byte → Parse Channel
  | [] => .error .badOperand
  | b :: bs => if b = 0 then .ok (.P, bs) else if b = 1 then .ok (.H, bs) else .error .badOperand

/-- `mode`: "1 for Altitude and 2 for Barometric". -/
def takeMode : List Byte → Parse Mode
  | [] => .error .badOperand
  | b :: bs => if b = 1 then .ok (.altitude, bs) else if b = 2 then .ok (.barometric, bs) else .error .badOperand

/-- Exactly `n` bytes. -/
def takeBytes (n : Nat) (bs : List Byte) : Parse (List Byte) :=
  if n ≤ bs.length then .ok (bs.take n, bs.drop n) else .error .badOperand

/-- A counted byte sequence `n, p0 … p(n−1)`. -/
def takeCounted : List Byte → Parse (List Byte)
  | [] => .error .badOperand
  | n :: bs => takeBytes n.toNat bs

/-- `st`: "a 4-byte big-endian two's-complement integer". -/
def takeStatus (bs : List Byte) : Parse Int :=
  andThen (takeBytes 4 bs) fun v bs => .ok ((BitVec.ofNat 32 (natOfBE v)).toInt, bs)

/-- `v`: "`ceil(w/8)` bytes big-endian". -/
def takeValue (w : Nat) (bs : List Byte) : Parse Nat :=
  andThen (takeBytes (valueBytes w) bs) fun v bs => .ok (natOfBE v, bs)

/-- Operands `a, r, n, p…`. -/
def writeOperands (f : Nat → Byte → List Byte → Instr) (bs : List Byte) : Parse Instr :=
  andThen (takeByte bs) fun a bs => andThen (takeByte bs) fun r bs => andThen (takeCounted bs) fun p bs =>
    .ok (f a.toNat r p, bs)

/-- Three one-byte operands. -/
def threeBytes (f : Byte → Byte → Byte → Instr) (bs : List Byte) : Parse Instr :=
  andThen (takeByte bs) fun x bs => andThen (takeByte bs) fun y bs => andThen (takeByte bs) fun z bs => .ok (f x y z, bs)

/-- Two one-byte operands. -/
def twoBytes (f : Byte → Byte → Instr) (bs : List Byte) : Parse Instr :=
  andThen (takeByte bs) fun x bs => andThen (takeByte bs) fun y bs => .ok (f x y, bs)

/-- No operand. -/
def plain (i : Instr) (bs : List Byte) : Parse Instr := .ok (i, bs)

/-- One counted byte sequence. -/
def countedBytes (f : List Byte → Instr) (bs : List Byte) : Parse Instr :=
  andThen (takeCounted bs) fun raw bs => .ok (f raw, bs)

/-- The operands of the operation with the given opcode, in the order of R71, and the bytes that follow them. -/
def decodeOperands (op : Byte) (bs : List Byte) : Parse Instr :=
  match op.toNat with
  | 0x01 => writeOperands .encWrite bs
  | 0x02 => threeBytes (fun a r l => .encReadComb a.toNat r l.toNat) bs
  | 0x03 => twoBytes (fun a r => .encSplitPtr a.toNat r) bs
  | 0x04 => twoBytes (fun a l => .encSplitRead a.toNat l.toNat) bs
  | 0x05 => andThen (takeStatus bs) fun st bs => countedBytes (.decResult st) bs
  | 0x10 => andThen (takeChannel bs) fun ch bs => plain (.chOpen ch) bs
  | 0x11 => andThen (takeChannel bs) fun ch bs => threeBytes (fun a r l => .chRead ch a.toNat r l.toNat) bs
  | 0x12 => andThen (takeChannel bs) fun ch bs => writeOperands (.chWrite ch) bs
  | 0x13 => andThen (takeChannel bs) fun ch bs => threeBytes (fun a r b => .chWrite1 ch a.toNat r b) bs
  | 0x14 => andThen (takeChannel bs) fun ch bs => plain (.chClose ch) bs
  | 0x15 => twoBytes (fun a r => .pwSetPointer a.toNat r) bs
  | 0x16 => twoBytes (fun a l => .pwReadAfterPointer a.toNat l.toNat) bs
  | 0x20 => andThen (takeMode bs) fun m bs => plain (.ptConstruct m) bs
  | 0x21 => plain .ptSelectAltitude bs
  | 0x22 => plain .ptSelectBarometric bs
  | 0x23 => plain .ptIsReady bs
  | 0x24 => plain .ptFetchRaw bs
  | 0x25 => countedBytes .ptDecodeAltitude bs
  | 0x26 => countedBytes .ptDecodePressure bs
  | 0x27 => countedBytes .ptDecodeTemperature bs
  | 0x28 => plain .ptClose bs
  | 0x30 => plain .htConstruct bs
  | 0x31 => plain .htIsReady bs
  | 0x32 => plain .htFetchRaw bs
  | 0x33 => twoBytes .htConvTemperature bs
  | 0x34 => twoBytes .htConvHumidity bs
  | 0x35 => countedBytes .htDecodeTemperature bs
  | 0x36 => countedBytes .htDecodeHumidity bs
  | 0x37 => plain .htClose bs
  | 0x40 => andThen (takeByte bs) fun w bs => andThen (takeValue w.toNat bs) fun v bs => plain (.twos w.toNat v) bs
  | 0x50 => plain .mPressure bs
  | 0x51 => plain .mAltitude bs
  | 0x52 => plain .mTemperaturePt bs
  | 0x53 => plain .mHumidity bs
  | 0x54 => plain .mTemperatureHt bs
  | _ => .error .unknownOpcode

/-- One operation from the front of a byte sequence, and what follows it. A frame without byte 0 is cut short (R72). -/
def decodeStream : List Byte → Parse Instr
  | [] => .error .badOperand
  | op :: bs => decodeOperands op bs

/-- A whole command frame: `[op] ++ operands` and nothing else (R70, R72). Bytes after the operands of a frame without a
counted sequence are refused as `BadOperand` too: DESIGN CHOICE, safe, notes/assumptions/3.md. -/
def decodeFrame (frame : List Byte) : Except FrameError Instr :=
  match decodeStream frame with
  | .error e => .error e
  | .ok (i, []) => .ok i
  | .ok (_, _ :: _) => .error .badOperand

/-! ## Reading a transaction program of a given shape (R60 to R67) -/

/-- The operand of WRITE in shape W: `[ESCAPE] c` and then the `c` bytes `r, p0 … p(n−1)` (40_tokens.md R87); `e` is
`ESCAPE_WRITE_LENGTH` (R68). -/
def takeCountedWrite : List Byte → Option (WriteArg × List Byte)
  | c :: r :: bs =>
    if 2 ≤ c.toNat ∧ c.toNat - 1 ≤ bs.length then
      some (.counted r (bs.take (c.toNat - 1)), bs.drop (c.toNat - 1))
    else none
  | _ => none

/-- The operand of WRITE in a program of the given shape; SR has no WRITE. -/
def takeWriteArg (sh : Shape) (e : Bool) (bs : List Byte) : Option (WriteArg × List Byte) :=
  match sh with
  | .SR => none
  | .RC | .SP =>
    match bs with
    | x :: r :: rest => if x = tokESCAPE then some (.pointer r, rest) else none
    | _ => none
  | .W =>
    match e, bs with
    | false, bs => takeCountedWrite bs
    | true, x :: rest => if x = tokESCAPE then takeCountedWrite rest else none
    | true, [] => none

/-- The token in token position at the front of a program of shape `sh`, with its operands, and the elements after it. A value
8..255 in token position is illegal (R67), an address of 128 or more is none (20_memory.md R41), a read count is 1..255 (R65) in
either shape that reads: one token does not test RC's lower bound of 2 (40_tokens.md R86), which the checker of R88 does. DESIGN
CHOICE (notes/assumptions/19.md). -/
def decodeToken (sh : Shape) (e : Bool) : List Byte → Option (Instr × List Byte)
  | [] => none
  | t :: bs =>
    match t.toNat with
    | 0 => some (.tokEnd, bs)
    | 1 =>
      match bs with
      | x :: rest => some (.tokEscape x, rest)
      | [] => none
    | 2 => some (.tokStart, bs)
    | 3 => some (.tokStop, bs)
    | 4 =>
      match bs with
      | a :: rest => if a.toNat < 128 then some (.tokAddress a.toNat, rest) else none
      | [] => none
    | 5 => some (.tokFlags, bs)
    | 6 =>
      match bs with
      | c :: rest => if 1 ≤ c.toNat then some (.tokRead c.toNat, rest) else none
      | [] => none
    | 7 =>
      match takeWriteArg sh e bs with
      | some (arg, rest) => some (.tokWrite arg, rest)
      | none => none
    | _ => none

/-- At most `fuel` tokens, up to an END that no element follows (40_tokens.md R80). -/
def decodeProgramFuel (sh : Shape) (e : Bool) : Nat → List Byte → Option (List Instr)
  | 0, _ => none
  | fuel + 1, bs =>
    match decodeToken sh e bs with
    | none => none
    | some (.tokEnd, rest) => if rest = [] then some [.tokEnd] else none
    | some (t, rest) => (decodeProgramFuel sh e fuel rest).map (t :: ·)

/-- The tokens of a whole program of shape `sh`. -/
def decodeProgram (sh : Shape) (e : Bool) (prog : List Byte) : Option (List Instr) :=
  decodeProgramFuel sh e prog.length prog

/-! ## The encoder -/

/-- The element bytes of WRITE's operand; `e` is `ESCAPE_WRITE_LENGTH` (R68). -/
def WriteArg.encode (e : Bool) : WriteArg → List Byte
  | .pointer r => [tokESCAPE, r]
  | .counted r p => (if e then [tokESCAPE] else []) ++ (byte (p.length + 1) :: r :: p)

/-- `ch` as a frame byte. -/
def Channel.code : Channel → Byte
  | .P => 0
  | .H => 1

/-- `mode` as a frame byte. -/
def Mode.code : Mode → Byte
  | .altitude => 1
  | .barometric => 2

/-- A counted sequence as frame bytes. -/
def encodeCounted (bs : List Byte) : List Byte := byte bs.length :: bs

/-- The bytes after byte 0: operands in the order of R71, and for a token its operand elements (40_tokens.md). -/
def encodeOperands (e : Bool) : Instr → List Byte
  | .tokEnd => []
  | .tokEscape x => [x]
  | .tokStart => []
  | .tokStop => []
  | .tokAddress a => [byte a]
  | .tokFlags => []
  | .tokRead c => [byte c]
  | .tokWrite arg => arg.encode e
  | .encWrite a r p => byte a :: r :: encodeCounted p
  | .encReadComb a r l => [byte a, r, byte l]
  | .encSplitPtr a r => [byte a, r]
  | .encSplitRead a l => [byte a, byte l]
  | .decResult st d => bytesBE 4 (BitVec.ofInt 32 st).toNat ++ encodeCounted d
  | .chOpen ch => [ch.code]
  | .chRead ch a r l => [ch.code, byte a, r, byte l]
  | .chWrite ch a r p => ch.code :: byte a :: r :: encodeCounted p
  | .chWrite1 ch a r b => [ch.code, byte a, r, b]
  | .chClose ch => [ch.code]
  | .pwSetPointer a r => [byte a, r]
  | .pwReadAfterPointer a l => [byte a, byte l]
  | .ptConstruct m => [m.code]
  | .ptSelectAltitude => []
  | .ptSelectBarometric => []
  | .ptIsReady => []
  | .ptFetchRaw => []
  | .ptDecodeAltitude raw => encodeCounted raw
  | .ptDecodePressure raw => encodeCounted raw
  | .ptDecodeTemperature raw => encodeCounted raw
  | .ptClose => []
  | .htConstruct => []
  | .htIsReady => []
  | .htFetchRaw => []
  | .htConvTemperature hi lo => [hi, lo]
  | .htConvHumidity hi lo => [hi, lo]
  | .htDecodeTemperature raw => encodeCounted raw
  | .htDecodeHumidity raw => encodeCounted raw
  | .htClose => []
  | .twos w v => byte w :: bytesBE (valueBytes w) v.toNat
  | .mPressure => []
  | .mAltitude => []
  | .mTemperaturePt => []
  | .mHumidity => []
  | .mTemperatureHt => []

/-- The bytes of an instruction: a token's elements, or an operation's command frame. `e` matters to WRITE alone (R68). -/
def encode (e : Bool) (i : Instr) : List Byte := opcode i :: encodeOperands e i

/-! ## Table words (the host's numbering: bit 0 is the least significant bit of the first byte) -/

/-- The first `n` bytes of a table word. -/
def tableBytes : Nat → Nat → List Byte
  | 0, _ => []
  | n + 1, w => byte (w % 256) :: tableBytes n (w / 256)

/-- A table word followed by zero bytes: as many as any operation can read on, which is 6 (the fields before and with the
count of DEC_RESULT) and then no more than the largest operand byte the word gives. -/
def paddedTableWord (nbits w : Nat) : List Byte :=
  let given := tableBytes ((nbits + 7) / 8) w
  given ++ List.replicate (6 + (given.drop 1).foldl (fun m b => max m b.toNat) 0) 0

/-- The operation the decoder reads from a table word whose further operand bytes are zero. The command port alone takes
instructions, so a token value that is no opcode (00, 06, 07) gives none, and 01 to 05 give the operation
(notes/assumptions/4.md). -/
def decodeTableWord (nbits w : Nat) : Option Instr :=
  match decodeStream (paddedTableWord nbits w) with
  | .ok (i, _) => some i
  | .error _ => none

/-- The command frame a table word stands for: the bytes its operation takes, or the word alone where the decoder refuses. -/
def tableFrame (nbits w : Nat) : List Byte :=
  match decodeStream (paddedTableWord nbits w) with
  | .ok (_, rest) => (paddedTableWord nbits w).take ((paddedTableWord nbits w).length - rest.length)
  | .error _ => tableBytes ((nbits + 7) / 8) w

end Sys2Proof
end

