-- ==== Sys2Proof/Machine/State.lean ====
section
/-! DEFINITION. The state record of spec/10_state.md R20 as plain data, with the results the command port carries back
(00_scope.md R15), the reasons of a fault or a refusal (60_exceptions.md R175, R176), and the ports' other sides. -/

namespace Sys2Proof.Machine

/-! ## Results (00_scope.md R15) -/

/-- `TResult = Ok(st, d) | TErr(c)`. -/
inductive TResult where
  | ok (st : Int) (d : List Byte)
  | terr (c : Int)
  deriving DecidableEq, Repr

/-- `Fetch = Ready(d) | NotReady | TransportError(c)`. -/
inductive Fetch where
  | ready (d : List Byte)
  | notReady
  | transportError (c : Int)
  deriving DecidableEq, Repr

/-- `Value = Avail(q) | Unavailable`. -/
inductive Value where
  | avail (q : Rat)
  | unavailable
  deriving DecidableEq, Repr

/-- The sensor of a driver or of an error record: PT or HT. -/
inductive Sensor where
  | PT
  | HT
  deriving DecidableEq, Repr

/-- The four kinds of error (60_exceptions.md R170). -/
inductive ErrorKind where
  | busUnavailable
  | transportError
  | malformedReading
  | timeout
  deriving DecidableEq, Repr

/-- The operation an error record names: `"open"` or `"poll"` (R170). -/
inductive ErrorOp where
  | openBus
  | poll
  deriving DecidableEq, Repr

/-- `Measure = Done(q) | Error(kind, sensor, operation)`. -/
inductive Measure where
  | done (q : Rat)
  | error (kind : ErrorKind) (sensor : Sensor) (operation : ErrorOp)
  deriving DecidableEq, Repr

/-- What an operation gives back on the command port (00_scope.md R8 (a)). -/
inductive Result where
  /-- `return Ok`. -/
  | ok
  /-- The program an encoder returns (41_encoder.md R90 to R93). -/
  | program (prog : List Byte)
  /-- A decoded transport answer. -/
  | transport (r : TResult)
  /-- The raw integer status of PW_SET_POINTER (42_channel.md R105). -/
  | status (st : Int)
  /-- The answer of a readiness test. -/
  | ready (b : Bool)
  | fetch (f : Fetch)
  | value (v : Value)
  /-- The number HT_CONV_TEMPERATURE or HT_CONV_HUMIDITY returns (44_humidity.md R134, R135). -/
  | number (q : Rat)
  /-- The integer TWOS returns (43_pressure.md R110). -/
  | integer (z : Int)
  /-- `raise BusUnavailable(ch, "open")`, from CH_OPEN or re-raised by a construction (R170). -/
  | busUnavailable (ch : Channel) (operation : ErrorOp)
  | measure (m : Measure)
  deriving DecidableEq, Repr

/-! ## Fields of the state -/

/-- A channel's state field (10_state.md R21). -/
inductive ChannelSt where
  | closed
  | opened
  deriving DecidableEq, Repr

/-- A driver's state field (R25, R26). -/
inductive DriverSt where
  | unconfigured
  | configured
  | closed
  deriving DecidableEq, Repr

/-- `PT.mode` (R25). -/
inductive PtMode where
  | none
  | altitude
  | barometric
  deriving DecidableEq, Repr

/-- `PT.st`, `PT.mode` and the ready latch `PT.ready` (R24, R25). -/
structure PtDriver where
  st : DriverSt
  mode : PtMode
  ready : Bool
  deriving DecidableEq, Repr

/-- `HT.st` and the ready latch `HT.ready` (R24, R26). -/
structure HtDriver where
  st : DriverSt
  ready : Bool
  deriving DecidableEq, Repr

/-- The transport port: Idle, Busy(prog) or Answered(st, d) (R27). -/
inductive TransportPort where
  | idle
  | busy (prog : List Byte)
  | answered (st : Int) (d : List Byte)
  deriving DecidableEq, Repr

/-- The claim port: Idle, Busy or Answered(ok or fail) (R27). -/
inductive ClaimPort where
  | idle
  | busy
  | answered (ok : Bool)
  deriving DecidableEq, Repr

/-- The sequencer position: Idle, or Exec(op, step) with `step` the index of the next exchange in op's list (R28). -/
inductive Seq where
  | idle
  | exec (op : Instr) (step : Nat)
  deriving DecidableEq, Repr

/-- `M.phase` (R29). -/
inductive Phase where
  | construct
  | poll
  | fetch
  | decode
  | sleep
  | close
  deriving DecidableEq, Repr

/-- `M.phase` and `M.fails` (R29). -/
structure Facade where
  phase : Phase
  fails : Nat
  deriving DecidableEq, Repr

/-! ## Faults and refusals -/

/-- Fault reasons. The first five are the spec's (60_exceptions.md R176): the meaning that meets one RECORDS it in
`State.faults` and ends the operation with a next state (R177); `op` is the opcode of the rule whose `require` failed. Safe:
claims about a run assume that none is recorded (R30). -/
inductive Fault where
  /-- 0x01: opening `ch` while the other channel is Open. Recorded by CH_OPEN and so by constructions and measurements. -/
  | concurrentChannel (ch : Channel)
  /-- 0x02: a read, write, set_pointer or read_after_pointer on a Closed channel. Recorded by the channel operations. -/
  | channelNotOpen (ch : Channel) (op : Byte)
  /-- 0x03: closing a Closed channel. Recorded by CH_CLOSE. -/
  | doubleClose (ch : Channel)
  /-- 0x04: a channel operation issued by the Caller while the owning driver is Configured. Recorded by opcodes 0x10 to 0x16. -/
  | channelOwned (ch : Channel) (op : Byte)
  /-- 0x05: a driver operation in a state its guard forbids. Recorded by the PT_* and HT_* operations but the decoders. -/
  | driverState (drv : Sensor) (op : Byte) (st : DriverSt)
  /-- Not the spec's: `step` stops with it, recording nothing, in a state whose sequencer position and ports fit no operation's
  exchange list. No run reaches one (`Obligations.StepNeverStopsUnderInvariant`). Safe. -/
  | noSuchPosition
  deriving DecidableEq, Repr

/-- Refusal reasons. The first five are the spec's (60_exceptions.md R175): RECORDED in `State.refused` with a next state and
no other effect (R177). Safe, as for faults. -/
inductive Refusal where
  /-- 0x81: the frame's op is not in R71. Recorded by the command port. -/
  | unknownOpcode
  /-- 0x82: a malformed frame, recorded by the command port; or `v` outside [0, 2^w), recorded by TWOS. -/
  | badOperand
  /-- 0x83: an address of 128 or more. Recorded by ENC_*, CH_READ, CH_WRITE, CH_WRITE1, PW_* and the ADDRESS token. -/
  | badAddress
  /-- 0x84: a payload or read length outside its range. Recorded by the encoders and what is built on them. -/
  | badLength
  /-- 0x85: `w < 1`. Recorded by TWOS. -/
  | badWidth
  /-- The meaning of the FLAGS token stops with it: "A model must not give FLAGS operands or a meaning" (40_tokens.md R85).
  Safe: nothing follows a refusal. -/
  | flagsHasNoMeaning
  /-- An instruction whose arm of `exec` has no meaning yet. Safe: nothing follows a refusal. -/
  | notModelled (mnemonic : String)
  deriving DecidableEq, Repr

/-! ## The ports' other sides (00_scope.md R7, R8) -/

/-- One exchange the Sequencer made (00_scope.md R18), with what it sent. -/
inductive Exchange where
  | claim (sda scl bitrate : Nat)
  | transact (bus : Nat) (prog : List Byte)
  | release
  deriving DecidableEq, Repr

/-- What stands at the ports outside the block: the Caller's frames still to be issued and the result it reads, the answers the
claim port and the Transport will give (the oracle's choices, oldest first), and the exchanges made so far (oldest first).
These are the model's own: inputs and outputs, not state of R20 (notes/assumptions/2.md). -/
structure Io where
  frames : List (List Byte)
  result : Option Result
  claims : List Bool
  answers : List (Int × List Byte)
  trace : List Exchange
  deriving DecidableEq, Repr

/-! ## The state -/

/-- R20's record, the instance's parameters (`cfg`, R10, which no operation writes), the program being assembled from tokens
(`asm`, notes/assumptions/5.md) and the ports' other sides. `faults` and `refused` are sets kept as lists without repeats. -/
structure State where
  cfg : Config
  chP : ChannelSt
  chH : ChannelSt
  pt : PtDriver
  ht : HtDriver
  port : TransportPort
  claim : ClaimPort
  seq : Seq
  m : Facade
  faults : List Fault
  refused : List Refusal
  asm : List Byte
  io : Io
  deriving DecidableEq, Repr

/-- The state after reset (R35, R190). R35 leaves `M.phase` and `M.fails` unspecified outside a measurement: Construct and 0
here, DESIGN CHOICE (notes/assumptions/6.md). The instance is `CFG_REF` (notes/assumptions/1.md), and nothing has been issued,
answered or exchanged. -/
def State.reset : State where
  cfg := Config.ref
  chP := .closed
  chH := .closed
  pt := ⟨.unconfigured, .none, false⟩
  ht := ⟨.unconfigured, false⟩
  port := .idle
  claim := .idle
  seq := .idle
  m := ⟨.construct, 0⟩
  faults := []
  refused := []
  asm := []
  io := ⟨[], none, [], [], []⟩

end Sys2Proof.Machine
end

