-- ==== Sys2Proof/Machine/Ops.lean ====
section
/-! DEFINITION. The named operations on the state: channel and driver fields, the exchanges of the two ports (spec/00_scope.md
R14), and the three ways an operation ends: with a result, with a recorded fault, with a recorded refusal (60_exceptions.md
R170, R177). The block has no memory and no registers to read or write (00_scope.md R14, 10_state.md R31). -/

namespace Sys2Proof.Machine

/-- The other channel. -/
def otherChannel : Channel → Channel
  | .P => .H
  | .H => .P

namespace State

/-- `s.ch.st`. -/
def chan (s : State) : Channel → ChannelSt
  | .P => s.chP
  | .H => s.chH

/-- `s.ch.st <- v`. -/
def setChan (s : State) (ch : Channel) (v : ChannelSt) : State :=
  match ch with
  | .P => { s with chP := v }
  | .H => { s with chH := v }

/-- The state of the driver that owns the channel: `CH_P` is PT's and `CH_H` is HT's (42_channel.md R107). -/
def owner (s : State) : Channel → DriverSt
  | .P => s.pt.st
  | .H => s.ht.st

/-- A new `PT` record. -/
def setPt (s : State) (v : PtDriver) : State := { s with pt := v }

/-- A new `HT` record. -/
def setHt (s : State) (v : HtDriver) : State := { s with ht := v }

/-- `PT.ready <- b`. -/
def setPtReady (s : State) (b : Bool) : State := s.setPt { s.pt with ready := b }

/-- `HT.ready <- b`. -/
def setHtReady (s : State) (b : Bool) : State := s.setHt { s.ht with ready := b }

/-- `M.phase <- p`. -/
def setPhase (s : State) (p : Phase) : State := { s with m := { s.m with phase := p } }

/-- `M.fails <- n`. -/
def setFails (s : State) (n : Nat) : State := { s with m := { s.m with fails := n } }

/-! ## The sequencer position (10_state.md R28) -/

/-- The Sequencer stands in `op`, before its exchange `k`. -/
def moveTo (s : State) (op : Instr) (k : Nat) : State := { s with seq := .exec op k }

/-- The operation ends by returning `r` (an error is a result too, R170). -/
def finish (s : State) (r : Result) : State := { s with seq := .idle, io := { s.io with result := some r } }

/-- Insert into a set kept as a list without repeats. -/
def insertNew {α : Type} [DecidableEq α] (x : α) (xs : List α) : List α := if x ∈ xs then xs else xs ++ [x]

/-- `fault F`: the fault is recorded, the operation ends, and what it wrote before stays written (R177). -/
def fault (s : State) (f : Fault) : State := { s with seq := .idle, faults := insertNew f s.faults }

/-- `refuse F`: the refusal is recorded and nothing of the operation happens (R175, R177). -/
def refuse (s : State) (f : Refusal) : State := { s with seq := .idle, refused := insertNew f s.refused }

/-! ## Exchanges (00_scope.md R14, R18) -/

/-- Keep an exchange in the record of exchanges made. -/
def record (s : State) (x : Exchange) : State := { s with io := { s.io with trace := s.io.trace ++ [x] } }

/-- `Transact(prog)` as exchange `k` of `op`: the port goes from Idle to Busy(prog) (10_state.md R27). -/
def transact (s : State) (op : Instr) (k : Nat) (prog : List Byte) : State :=
  { (s.moveTo op k).record (.transact s.cfg.busId prog) with port := .busy prog }

/-- `Claim()` as exchange `k` of `op`, with the pins and the bit clock (00_scope.md R8 (c)). -/
def claimBus (s : State) (op : Instr) (k : Nat) : State :=
  { (s.moveTo op k).record (.claim s.cfg.busSda s.cfg.busScl s.cfg.busBitrate) with claim := .busy }

/-- `Release()`, which has no answer (R27). -/
def release (s : State) : State := s.record .release

end State

/-- An answer the Sequencer consumes. -/
inductive Answer where
  | claim (ok : Bool)
  | transport (st : Int) (d : List Byte)
  deriving DecidableEq, Repr

end Sys2Proof.Machine
end

