-- ==== Sys2Proof/Machine/Operands.lean ====
section
/-! DEFINITION. Operand forms: the ranges of spec/30_encoding.md R65, the program each shape lays out from its operands (R63),
the assembly of raw bytes (00_scope.md R13, 20_memory.md R44), and the codes of errors, faults and refusals
(60_exceptions.md R170, R175, R176). -/

namespace Sys2Proof.Machine

/-! ## The four shapes (R63): elements, index 0 first -/

/-- W: `ADDRESS, a, START, WRITE, [ESCAPE], c, r, p0, …, p(n−1), STOP, END` with `c = n + 1`; `e` is `ESCAPE_WRITE_LENGTH`. -/
def shapeW (e : Bool) (a : Nat) (r : Byte) (p : List Byte) : List Byte :=
  [tokADDRESS, byte a, tokSTART, tokWRITE] ++ (if e then [tokESCAPE] else []) ++ [byte (p.length + 1), r] ++ p ++
    [tokSTOP, tokEND]

/-- RC: `ADDRESS, a, START, WRITE, ESCAPE, r, START, READ, L+1, STOP, END`. -/
def shapeRC (a : Nat) (r : Byte) (l : Nat) : List Byte :=
  [tokADDRESS, byte a, tokSTART, tokWRITE, tokESCAPE, r, tokSTART, tokREAD, byte (l + 1), tokSTOP, tokEND]

/-- SP: `ADDRESS, a, START, WRITE, ESCAPE, r, STOP, END`. -/
def shapeSP (a : Nat) (r : Byte) : List Byte :=
  [tokADDRESS, byte a, tokSTART, tokWRITE, tokESCAPE, r, tokSTOP, tokEND]

/-- SR: `ADDRESS, a, START, READ, L, STOP, END`. -/
def shapeSR (a : Nat) (l : Nat) : List Byte :=
  [tokADDRESS, byte a, tokSTART, tokREAD, byte l, tokSTOP, tokEND]

/-! ## Operand ranges (R65; 41_encoder.md R90 to R93 give the order of the refusals) -/

/-- `encode_write` (R90). -/
def encodeWrite (e : Bool) (a : Nat) (r : Byte) (p : List Byte) : Except Refusal (List Byte) :=
  if 128 ≤ a then .error .badAddress
  else if p.length < 1 ∨ 254 < p.length then .error .badLength
  else .ok (shapeW e a r p)

/-- `encode_read`, shape (a) (R91). -/
def encodeReadComb (a : Nat) (r : Byte) (l : Nat) : Except Refusal (List Byte) :=
  if 128 ≤ a then .error .badAddress
  else if l < 1 ∨ 254 < l then .error .badLength
  else .ok (shapeRC a r l)

/-- `encode_read`, shape (b), program 1 (R92). -/
def encodeSplitPtr (a : Nat) (r : Byte) : Except Refusal (List Byte) :=
  if 128 ≤ a then .error .badAddress else .ok (shapeSP a r)

/-- `encode_read`, shape (b), program 2 (R93). -/
def encodeSplitRead (a : Nat) (l : Nat) : Except Refusal (List Byte) :=
  if 128 ≤ a then .error .badAddress
  else if l < 1 ∨ 255 < l then .error .badLength
  else .ok (shapeSR a l)

/-- "Decode result" (R94): a negative status is `TErr` and its data is discarded; any other is `Ok` with the data unchanged. -/
def decodeResult (st : Int) (d : List Byte) : TResult := if st < 0 then .terr st else .ok st d

/-! ## The program checker (40_tokens.md R88)

"`WellFormed(shape, prog)` is true iff there are operands within the ranges of `30_encoding.md` rule R65 such that prog equals
the layout of that shape". The operands can only be the elements at their positions, so they are read there and the layout is
compared. -/

/-- The element at an index, or 0 past the end. -/
def elementAt (prog : List Byte) (i : Nat) : Byte := prog.getD i 0

/-- The program checker, under the instance's `ESCAPE_WRITE_LENGTH` `e`. -/
def programWellFormed (e : Bool) (sh : Shape) (prog : List Byte) : Bool :=
  let a := (elementAt prog 1).toNat
  decide (a < 128) &&
  match sh with
  | .W =>
    let j := if e then 1 else 0
    let n := (elementAt prog (4 + j)).toNat - 1
    decide (1 ≤ n) && decide (prog = shapeW e a (elementAt prog (5 + j)) ((prog.drop (6 + j)).take n))
  | .RC =>
    let l := (elementAt prog 8).toNat - 1
    decide (1 ≤ l) && decide (prog = shapeRC a (elementAt prog 5) l)
  | .SP => decide (prog = shapeSP a (elementAt prog 5))
  | .SR =>
    let l := (elementAt prog 4).toNat
    decide (1 ≤ l) && decide (prog = shapeSR a l)

/-! ## Raw values (00_scope.md R13) -/

/-- `s[i:j]`, the elements i up to but not including j. -/
def slice (s : List Byte) (i j : Nat) : List Byte := (s.drop i).take (j - i)

/-- `be16(s) = s[0]·2^8 + s[1]`. -/
def be16 (s : List Byte) : Nat := (elementAt s 0).toNat * 2 ^ 8 + (elementAt s 1).toNat

/-- `be24(s) = s[0]·2^16 + s[1]·2^8 + s[2]`. -/
def be24 (s : List Byte) : Nat :=
  (elementAt s 0).toNat * 2 ^ 16 + (elementAt s 1).toNat * 2 ^ 8 + (elementAt s 2).toNat

/-! ## Codes -/

/-- R170. -/
def ErrorKind.code : ErrorKind → Nat
  | .busUnavailable => 1
  | .transportError => 2
  | .malformedReading => 3
  | .timeout => 4

/-- R170: PT = 0 or HT = 1. -/
def Sensor.code : Sensor → Nat
  | .PT => 0
  | .HT => 1

/-- R176; the model's own reason has no code. -/
def Fault.code : Fault → Option Nat
  | .concurrentChannel _ => some 0x01
  | .channelNotOpen .. => some 0x02
  | .doubleClose _ => some 0x03
  | .channelOwned .. => some 0x04
  | .driverState .. => some 0x05
  | .noSuchPosition => none

/-- R175; the reasons that only stop the model have no code. -/
def Refusal.code : Refusal → Option Nat
  | .unknownOpcode => some 0x81
  | .badOperand => some 0x82
  | .badAddress => some 0x83
  | .badLength => some 0x84
  | .badWidth => some 0x85
  | _ => none

/-- The name of an error record's operation (R170). -/
def ErrorOp.name : ErrorOp → String
  | .openBus => "open"
  | .poll => "poll"

/-- The error a result carries, with its kind (R170): `BusUnavailable` from CH_OPEN or a construction, `TransportError` in a
decoded answer or a fetch, `MalformedReading` as `Unavailable`, and the error of a measurement. PW_SET_POINTER returns the bare
status, which is no error (42_channel.md R105). -/
def Result.errorKind : Result → Option ErrorKind
  | .busUnavailable _ _ => some .busUnavailable
  | .transport (.terr _) => some .transportError
  | .transport (.ok _ _) => none
  | .fetch (.transportError _) => some .transportError
  | .fetch (.ready _) => none
  | .fetch .notReady => none
  | .value .unavailable => some .malformedReading
  | .value (.avail _) => none
  | .measure (.error k _ _) => some k
  | .measure (.done _) => none
  | .ok => none
  | .program _ => none
  | .status _ => none
  | .ready _ => none
  | .number _ => none
  | .integer _ => none

end Sys2Proof.Machine
end

