-- ==== Sys2Proof/Machine/Encoder.lean ====
section
/-! DEFINITION. The encoder operations and the result decoder (spec/41_encoder.md R90 to R94): pure, they end in the step that
issues them. -/

namespace Sys2Proof.Machine

/-- An encoder operation returns its program to the Caller, or refuses. -/
def State.returnProgram (s : State) (prog : Except Refusal (List Byte)) : State :=
  match prog with
  | .error e => s.refuse e
  | .ok p => s.finish (.program p)

/-- ENC_WRITE (R90). -/
def execEncWrite (a : Nat) (r : Byte) (p : List Byte) (s : State) : Host.Outcome State Fault Refusal :=
  .next (s.returnProgram (encodeWrite s.cfg.escapeWriteLength a r p))

/-- ENC_READ_COMB (R91). -/
def execEncReadComb (a : Nat) (r : Byte) (l : Nat) (s : State) : Host.Outcome State Fault Refusal :=
  .next (s.returnProgram (encodeReadComb a r l))

/-- ENC_SPLIT_PTR (R92). -/
def execEncSplitPtr (a : Nat) (r : Byte) (s : State) : Host.Outcome State Fault Refusal :=
  .next (s.returnProgram (encodeSplitPtr a r))

/-- ENC_SPLIT_READ (R93). -/
def execEncSplitRead (a : Nat) (l : Nat) (s : State) : Host.Outcome State Fault Refusal :=
  .next (s.returnProgram (encodeSplitRead a l))

/-- DEC_RESULT (R94). -/
def execDecResult (st : Int) (d : List Byte) (s : State) : Host.Outcome State Fault Refusal :=
  .next (s.finish (.transport (decodeResult st d)))

end Sys2Proof.Machine
end

