-- ==== Sys2Proof/Machine/Channel.lean ====
section
/-! DEFINITION. The Bus Channel and the Pointer-Write Channel (spec/42_channel.md R100 to R107). Each operation has a beginning,
which makes its checks in the order of 60_exceptions.md R178 and its first exchange, and, where an exchange is answered, what
the Sequencer does with the answer. `op` and `k` say for which operation and at which exchange of its list the channel works;
`direct` says that the Caller issued the channel operation itself (R107). -/

namespace Sys2Proof.Machine

/-! ## Shared by the channel operations and the drivers -/

/-- CH_OPEN after its ownership test (R100): an open channel goes on at once, with no claim. -/
def openBegin (op : Instr) (k : Nat) (ch : Channel) (already : State → State) (s : State) : State :=
  if s.chan ch = .opened then already s
  else if s.chan (otherChannel ch) = .opened then s.fault (.concurrentChannel ch)
  else s.claimBus op k

/-- CH_OPEN on the claim's answer (R100): a failed claim leaves the channel Closed. -/
def openAnswer (ch : Channel) (ok : Bool) (opened failed : State → State) (s : State) : State :=
  if ok then opened (s.setChan ch .opened) else failed s

/-- One transaction on a channel: operand refusals, ownership, the channel's own state, then the exchange (R178). `code` is the
opcode of the channel operation, for the fault record. -/
def channelTransact (op : Instr) (k : Nat) (direct : Bool) (ch : Channel) (code : Byte)
    (prog : Except Refusal (List Byte)) (s : State) : State :=
  match prog with
  | .error e => s.refuse e
  | .ok p =>
    if direct = true ∧ s.owner ch = .configured then s.fault (.channelOwned ch code)
    else if s.chan ch = .opened then s.transact op k p
    else s.fault (.channelNotOpen ch code)

/-- `CH_READ` (R101). -/
def readBegin (op : Instr) (k : Nat) (direct : Bool) (ch : Channel) (a : Nat) (r : Byte) (l : Nat) (s : State) : State :=
  channelTransact op k direct ch 0x11 (encodeReadComb a r l) s

/-- `CH_WRITE` (R102). -/
def writeBegin (op : Instr) (k : Nat) (direct : Bool) (ch : Channel) (a : Nat) (r : Byte) (p : List Byte) (s : State) :
    State :=
  channelTransact op k direct ch 0x12 (encodeWrite s.cfg.escapeWriteLength a r p) s

/-- `PW_SET_POINTER` (R105), on `CH_H`. -/
def setPointerBegin (op : Instr) (k : Nat) (direct : Bool) (a : Nat) (r : Byte) (s : State) : State :=
  channelTransact op k direct .H 0x15 (encodeSplitPtr a r) s

/-- `PW_READ_AFTER_POINTER` (R106), on `CH_H`. -/
def readAfterPointerBegin (op : Instr) (k : Nat) (direct : Bool) (a : Nat) (l : Nat) (s : State) : State :=
  channelTransact op k direct .H 0x16 (encodeSplitRead a l) s

/-- CH_CLOSE after its ownership test (R104): Release, Closed, and then `closed`. -/
def closeBegin (ch : Channel) (closed : State → State) (s : State) : State :=
  if s.chan ch = .opened then closed (s.release.setChan ch .closed) else s.fault (.doubleClose ch)

/-! ## The operations of the command port -/

/-- CH_OPEN (R100). -/
def execChOpen (ch : Channel) (s : State) : Host.Outcome State Fault Refusal :=
  .next (if s.owner ch = .configured then s.fault (.channelOwned ch 0x10)
    else openBegin (.chOpen ch) 0 ch (fun s => s.finish .ok) s)

/-- CH_OPEN on the claim's answer. -/
def answerChOpen (ch : Channel) (k : Nat) (ans : Answer) (s : State) : Option State :=
  match k, ans with
  | 0, .claim ok => some (openAnswer ch ok (fun s => s.finish .ok) (fun s => s.finish (.busUnavailable ch .openBus)) s)
  | _, _ => none

/-- CH_READ (R101). -/
def execChRead (ch : Channel) (a : Nat) (r : Byte) (l : Nat) (s : State) : Host.Outcome State Fault Refusal :=
  .next (readBegin (.chRead ch a r l) 0 true ch a r l s)

/-- CH_WRITE (R102). -/
def execChWrite (ch : Channel) (a : Nat) (r : Byte) (p : List Byte) (s : State) : Host.Outcome State Fault Refusal :=
  .next (writeBegin (.chWrite ch a r p) 0 true ch a r p s)

/-- CH_WRITE1 (R103): `CH_WRITE` with the one-element payload, its result "identical in every respect". The operation in the
sequencer position is the one taken from the command port (10_state.md R28). -/
def execChWrite1 (ch : Channel) (a : Nat) (r : Byte) (b : Byte) (s : State) : Host.Outcome State Fault Refusal :=
  .next (writeBegin (.chWrite1 ch a r b) 0 true ch a r [b] s)

/-- CH_CLOSE (R104). -/
def execChClose (ch : Channel) (s : State) : Host.Outcome State Fault Refusal :=
  .next (if s.owner ch = .configured then s.fault (.channelOwned ch 0x14) else closeBegin ch (fun s => s.finish .ok) s)

/-- PW_SET_POINTER (R105). -/
def execPwSetPointer (a : Nat) (r : Byte) (s : State) : Host.Outcome State Fault Refusal :=
  .next (setPointerBegin (.pwSetPointer a r) 0 true a r s)

/-- PW_READ_AFTER_POINTER (R106). -/
def execPwReadAfterPointer (a : Nat) (l : Nat) (s : State) : Host.Outcome State Fault Refusal :=
  .next (readAfterPointerBegin (.pwReadAfterPointer a l) 0 true a l s)

/-- An operation whose one exchange's answer is decoded and returned (R101, R102, R106). -/
def answerTransport (k : Nat) (ans : Answer) (s : State) : Option State :=
  match k, ans with
  | 0, .transport st d => some (s.finish (.transport (decodeResult st d)))
  | _, _ => none

/-- PW_SET_POINTER on the answer: "return st -- d is discarded" (R105). -/
def answerPwSetPointer (k : Nat) (ans : Answer) (s : State) : Option State :=
  match k, ans with
  | 0, .transport st _ => some (s.finish (.status st))
  | _, _ => none

end Sys2Proof.Machine
end

