-- ==== Sys2Proof/Machine/Flags.lean ====
section
/-! DEFINITION. The block's only flags are the two ready latches (spec/10_state.md R32): how a readiness test computes each from
the transport's answer (43_pressure.md R114, 44_humidity.md R132). There is no condition-code register. -/

namespace Sys2Proof.Machine

/-- `v[i]`: bit i of a byte (00_scope.md R12). -/
def bit (v : Byte) (i : Nat) : Bool := v.getLsbD i

/-- PT readiness: `Ok(_, d)` with `len(d) ≥ 1` and bit 3 of `d[0]` set (R114). -/
def ptReadiness : TResult → Bool
  | .ok _ (b :: _) => bit b ptReadyBit
  | .ok _ [] => false
  | .terr _ => false

/-- HT readiness: the status is not negative; the data is not looked at (R132). -/
def htReadiness : TResult → Bool
  | .ok _ _ => true
  | .terr _ => false

end Sys2Proof.Machine
end

