-- ==== Sys2Proof/Machine/Pressure.lean ====
section
/-! DEFINITION. The two's-complement helper and the pressure/altitude/temperature driver (spec/43_pressure.md R110 to R120). The
bodies are shared with the measurement façade: `op` and `k` say at which exchange of which operation they stand, and a
continuation says what the operation does when a body ends. The exchanges of PT construction are 0 Claim, 1 data-flag write,
2 mode + oversampling write, 3 continuous-conversion write. -/

namespace Sys2Proof.Machine

/-! ## Two's complement (R110) -/

/-- `if v[w-1] = 1 then v - 2^w else v`. -/
def twosValue (w : Nat) (v : Int) : Int := if v / 2 ^ (w - 1) % 2 = 1 then v - 2 ^ w else v

/-- TWOS (R110): `w >= 1` else BadWidth, `0 <= v < 2^w` else BadOperand. -/
def execTwos (w : Nat) (v : Int) (s : State) : Host.Outcome State Fault Refusal :=
  .next (if w < 1 then s.refuse .badWidth
    else if v < 0 ∨ 2 ^ w ≤ v then s.refuse .badOperand
    else s.finish (.integer (twosValue w v)))

/-! ## Mode selection (R112, R113) -/

/-- The mode + oversampling value of a mode. -/
def ctrlOs (c : Config) : Mode → Byte
  | .altitude => c.ptCtrlAltOs
  | .barometric => c.ptCtrlBarOs

/-- The mode + oversampling + continuous conversion value of a mode. -/
def ctrlRun (c : Config) : Mode → Byte
  | .altitude => c.ptCtrlAltRun
  | .barometric => c.ptCtrlBarRun

/-- The value `PT.mode` takes for a selected mode. -/
def modeSelected : Mode → PtMode
  | .altitude => .altitude
  | .barometric => .barometric

/-- The PT driver's `CH_WRITE1` on its own channel (43_pressure.md, template). -/
def ptWrite (op : Instr) (k : Nat) (r : Byte) (b : Byte) (s : State) : State := writeBegin op k false .P addrPt r [b] s

/-- First write of a selection: mode + oversampling. -/
def selectOs (op : Instr) (k : Nat) (m : Mode) (s : State) : State := ptWrite op k s.cfg.ptRegCtrl (ctrlOs s.cfg m) s

/-- Second write of a selection: continuous conversion. -/
def selectRun (op : Instr) (k : Nat) (m : Mode) (s : State) : State := ptWrite op k s.cfg.ptRegCtrl (ctrlRun s.cfg m) s

/-- What a selection writes in the block after its two writes, whose answers are ignored. -/
def selectEnd (m : Mode) (s : State) : State := s.setPt { s.pt with mode := modeSelected m, ready := false }

/-- A PT operation's state guard: Configured, else the fault DriverState (60_exceptions.md R176). -/
def ptGuard (code : Byte) (body : State → State) (s : State) : State :=
  if s.pt.st = .configured then body s else s.fault (.driverState .PT code s.pt.st)

/-- PT_SELECT_ALTITUDE (R112). -/
def execPtSelectAltitude (s : State) : Host.Outcome State Fault Refusal :=
  .next (ptGuard 0x21 (selectOs .ptSelectAltitude 0 .altitude) s)

/-- PT_SELECT_BAROMETRIC (R113). -/
def execPtSelectBarometric (s : State) : Host.Outcome State Fault Refusal :=
  .next (ptGuard 0x22 (selectOs .ptSelectBarometric 0 .barometric) s)

/-- A selection goes on with its second write. -/
def proceedSelect (op : Instr) (m : Mode) (k : Nat) (s : State) : Option State :=
  match k with
  | 1 => some (selectRun op 1 m s)
  | _ => none

/-- A selection on the answer of a write: "result ignored". -/
def answerSelect (op : Instr) (m : Mode) (k : Nat) (ans : Answer) (s : State) : Option State :=
  match k, ans with
  | 0, .transport _ _ => some (s.moveTo op 1)
  | 1, .transport _ _ => some ((selectEnd m s).finish .ok)
  | _, _ => none

/-! ## Construction (R111) -/

/-- The data-flag write, exchange 1 of a construction. -/
def dataflagWrite (op : Instr) (s : State) : State := ptWrite op 1 s.cfg.ptRegDataflag s.cfg.ptDataflagEnable s

/-- The beginning of a PT construction: guard, CH_OPEN(CH_P); with the channel already open it goes on to the data-flag write.
Index 0 stays the skipped Claim's and the write has index 1: DESIGN CHOICE, 10_state.md R28 does not say
(notes/assumptions/18.md). -/
def ptConstructBegin (op : Instr) (s : State) : State :=
  if s.pt.st = .configured then s.fault (.driverState .PT 0x20 s.pt.st)
  else openBegin op 0 .P (fun s => dataflagWrite op (s.setPtReady false)) s

/-- A PT construction goes on with its next write. -/
def ptConstructProceed (op : Instr) (m : Mode) (k : Nat) (s : State) : Option State :=
  match k with
  | 1 => some (dataflagWrite op s)
  | 2 => some (selectOs op 2 m s)
  | 3 => some (selectRun op 3 m s)
  | _ => none

/-- A PT construction on an answer: `done` is what the operation does when it has constructed, `failed` when the claim failed. -/
def ptConstructAnswer (op : Instr) (m : Mode) (done failed : State → State) (k : Nat) (ans : Answer) (s : State) :
    Option State :=
  match k, ans with
  | 0, .claim ok => some (openAnswer .P ok (fun s => (s.setPtReady false).moveTo op 1) failed s)
  | 1, .transport _ _ => some ((s.setPt { s.pt with st := .configured }).moveTo op 2)
  | 2, .transport _ _ => some (s.moveTo op 3)
  | 3, .transport _ _ => some (done (selectEnd m s))
  | _, _ => none

/-- PT_CONSTRUCT (R111). -/
def execPtConstruct (m : Mode) (s : State) : Host.Outcome State Fault Refusal :=
  .next (ptConstructBegin (.ptConstruct m) s)

/-- PT_CONSTRUCT on an answer: it returns Ok, or re-raises BusUnavailable. -/
def answerPtConstruct (m : Mode) (k : Nat) (ans : Answer) (s : State) : Option State :=
  ptConstructAnswer (.ptConstruct m) m (fun s => s.finish .ok) (fun s => s.finish (.busUnavailable .P .openBus)) k ans s

/-! ## Readiness (R114) and the raw fetch (R115) -/

/-- The readiness test's read. -/
def ptIsReadyBegin (op : Instr) (k : Nat) (s : State) : State :=
  ptGuard 0x23 (fun s => readBegin op k false .P addrPt s.cfg.ptRegStatus ptStatusLen s) s

/-- `PT.ready <- rdy`. -/
def ptIsReadyEnd (st : Int) (d : List Byte) (s : State) : State := s.setPtReady (ptReadiness (decodeResult st d))

/-- PT_IS_READY (R114). -/
def execPtIsReady (s : State) : Host.Outcome State Fault Refusal := .next (ptIsReadyBegin .ptIsReady 0 s)

/-- PT_IS_READY on the answer. -/
def answerPtIsReady (k : Nat) (ans : Answer) (s : State) : Option State :=
  match k, ans with
  | 0, .transport st d => some ((ptIsReadyEnd st d s).finish (.ready (ptReadiness (decodeResult st d))))
  | _, _ => none

/-- The fetch's read, or `notReady` with no exchange where the latch is clear. -/
def ptFetchBegin (op : Instr) (k : Nat) (notReady : State → State) (s : State) : State :=
  ptGuard 0x24 (fun s =>
    if s.pt.ready then readBegin op k false .P addrPt s.cfg.ptRegData ptDataLen (s.setPtReady false) else notReady s) s

/-- The fetch's result (R115, R133). -/
def fetchResult : TResult → Fetch
  | .terr c => .transportError c
  | .ok _ d => .ready d

/-- PT_FETCH_RAW (R115). -/
def execPtFetchRaw (s : State) : Host.Outcome State Fault Refusal :=
  .next (ptFetchBegin .ptFetchRaw 0 (fun s => s.finish (.fetch .notReady)) s)

/-- A fetch on the answer (both drivers). -/
def answerFetch (k : Nat) (ans : Answer) (s : State) : Option State :=
  match k, ans with
  | 0, .transport st d => some (s.finish (.fetch (fetchResult (decodeResult st d))))
  | _, _ => none

/-! ## Decoders (R116 to R119) -/

/-- The common beginning of the PT decoders (R116). -/
def ptDecoded (raw : List Byte) (q : Rat) : Value := if raw.length = ptRawLen then .avail q else .unavailable

/-- Altitude in meters: `TWOS(be24(raw[0:3]), 24) / 256` (R117). -/
def ptAltitude (raw : List Byte) : Value := ptDecoded raw (mkRat (twosValue twosWidthPt (be24 (slice raw 0 3))) 256)

/-- Pressure in Pascals: `be24(raw[0:3]) / 64`, unsigned (R118). -/
def ptPressure (raw : List Byte) : Value := ptDecoded raw (mkRat (be24 (slice raw 0 3)) 64)

/-- Temperature in °C: `be16(raw[3:5]) / 256`, unsigned (R119). -/
def ptTemperature (raw : List Byte) : Value := ptDecoded raw (mkRat (be16 (slice raw 3 5)) 256)

/-- PT_DECODE_ALTITUDE (R117). -/
def execPtDecodeAltitude (raw : List Byte) (s : State) : Host.Outcome State Fault Refusal :=
  .next (s.finish (.value (ptAltitude raw)))

/-- PT_DECODE_PRESSURE (R118). -/
def execPtDecodePressure (raw : List Byte) (s : State) : Host.Outcome State Fault Refusal :=
  .next (s.finish (.value (ptPressure raw)))

/-- PT_DECODE_TEMPERATURE (R119). -/
def execPtDecodeTemperature (raw : List Byte) (s : State) : Host.Outcome State Fault Refusal :=
  .next (s.finish (.value (ptTemperature raw)))

/-! ## Close (R120) -/

/-- The close, returning `r`. -/
def ptCloseWith (r : Result) (s : State) : State :=
  ptGuard 0x28 (closeBegin .P (fun s => (s.setPt ⟨.closed, .none, false⟩).finish r)) s

/-- PT_CLOSE (R120). -/
def execPtClose (s : State) : Host.Outcome State Fault Refusal := .next (ptCloseWith .ok s)

end Sys2Proof.Machine
end

