-- ==== Sys2Proof/Machine/Humidity.lean ====
section
/-! DEFINITION. The humidity/temperature driver (spec/44_humidity.md R130 to R139). The exchanges of its construction are 0 Claim,
1 setup-word write, 2 pointer set. -/

namespace Sys2Proof.Machine

/-- An HT operation's state guard: Configured, else the fault DriverState (60_exceptions.md R176). -/
def htGuard (code : Byte) (body : State → State) (s : State) : State :=
  if s.ht.st = .configured then body s else s.fault (.driverState .HT code s.ht.st)

/-! ## Construction (R130) -/

/-- The setup-word write, exchange 1 of a construction, in the byte order of `HT_SETUP`. -/
def setupWrite (op : Instr) (s : State) : State :=
  writeBegin op 1 false .H addrHt s.cfg.htRegControl [s.cfg.htSetup0, s.cfg.htSetup1] s

/-- The beginning of an HT construction: guard, CH_OPEN(CH_H); with the channel already open it goes on to the setup write, whose
index is 1 all the same: DESIGN CHOICE (notes/assumptions/18.md). -/
def htConstructBegin (op : Instr) (s : State) : State :=
  if s.ht.st = .configured then s.fault (.driverState .HT 0x30 s.ht.st)
  else openBegin op 0 .H (fun s => setupWrite op (s.setHtReady false)) s

/-- An HT construction goes on with its next program. -/
def htConstructProceed (op : Instr) (k : Nat) (s : State) : Option State :=
  match k with
  | 1 => some (setupWrite op s)
  | 2 => some (setPointerBegin op 2 false addrHt s.cfg.htRegRead s)
  | _ => none

/-- An HT construction on an answer: `done` is what the operation does when it has constructed, `failed` when the claim failed. -/
def htConstructAnswer (op : Instr) (done failed : State → State) (k : Nat) (ans : Answer) (s : State) : Option State :=
  match k, ans with
  | 0, .claim ok => some (openAnswer .H ok (fun s => (s.setHtReady false).moveTo op 1) failed s)
  | 1, .transport _ _ => some (s.moveTo op 2)
  | 2, .transport _ _ => some (done (s.setHt { s.ht with st := .configured }))
  | _, _ => none

/-- HT_CONSTRUCT (R130). -/
def execHtConstruct (s : State) : Host.Outcome State Fault Refusal := .next (htConstructBegin .htConstruct s)

/-- HT_CONSTRUCT on an answer: it returns Ok, or re-raises BusUnavailable. -/
def answerHtConstruct (k : Nat) (ans : Answer) (s : State) : Option State :=
  htConstructAnswer .htConstruct (fun s => s.finish .ok) (fun s => s.finish (.busUnavailable .H .openBus)) k ans s

/-! ## Readiness (R132) and the raw fetch (R133) -/

/-- The readiness test's split read, of `HT_READY_LEN` bytes. -/
def htIsReadyBegin (op : Instr) (k : Nat) (s : State) : State :=
  htGuard 0x31 (fun s => readAfterPointerBegin op k false addrHt s.cfg.htReadyLen s) s

/-- `HT.ready <- rdy`; the data is discarded. -/
def htIsReadyEnd (st : Int) (d : List Byte) (s : State) : State := s.setHtReady (htReadiness (decodeResult st d))

/-- HT_IS_READY (R132). -/
def execHtIsReady (s : State) : Host.Outcome State Fault Refusal := .next (htIsReadyBegin .htIsReady 0 s)

/-- HT_IS_READY on the answer. -/
def answerHtIsReady (k : Nat) (ans : Answer) (s : State) : Option State :=
  match k, ans with
  | 0, .transport st d => some ((htIsReadyEnd st d s).finish (.ready (htReadiness (decodeResult st d))))
  | _, _ => none

/-- The fetch's split read with no new pointer set (D38), or `notReady` with no exchange where the latch is clear. -/
def htFetchBegin (op : Instr) (k : Nat) (notReady : State → State) (s : State) : State :=
  htGuard 0x32 (fun s =>
    if s.ht.ready then readAfterPointerBegin op k false addrHt htDataLen (s.setHtReady false) else notReady s) s

/-- HT_FETCH_RAW (R133). -/
def execHtFetchRaw (s : State) : Host.Outcome State Fault Refusal :=
  .next (htFetchBegin .htFetchRaw 0 (fun s => s.finish (.fetch .notReady)) s)

/-! ## Conversions (R131, R134, R135) -/

/-- The integer nearest to `n / d`, the even one of two equally near (R131). -/
def roundHalfEven (n : Int) (d : Nat) : Int :=
  let k := n / d
  let r := n % d
  if 2 * r < d then k else if d < 2 * r then k + 1 else if k % 2 = 0 then k else k + 1

/-- `round1(q)` as tenths: the integer nearest to `10·q`, ties to even (R131). -/
def tenths (q : Rat) : Int := roundHalfEven (10 * q.num) q.den

/-- `round1(q)`: `k/10`, exact (R131). -/
def round1 (q : Rat) : Rat := mkRat (tenths q) 10

/-- °C before rounding: `(x / 65536) * 165 - 40` (R134), over the common denominator. -/
def htTemperatureExact (x : Nat) : Rat := mkRat ((x : Int) * 165 - 40 * 65536) 65536

/-- % before rounding: `(x / 65536) * 100` (R135), over the common denominator. -/
def htHumidityExact (x : Nat) : Rat := mkRat ((x : Int) * 100) 65536

/-- The temperature of a 16-bit raw value (R134). -/
def htTemperature (x : Nat) : Rat := round1 (htTemperatureExact x)

/-- The humidity of a 16-bit raw value (R135). -/
def htHumidity (x : Nat) : Rat := round1 (htHumidityExact x)

/-- HT_CONV_TEMPERATURE (R134), on `t_hi, t_lo`. -/
def execHtConvTemperature (hi lo : Byte) (s : State) : Host.Outcome State Fault Refusal :=
  .next (s.finish (.number (htTemperature (be16 [hi, lo]))))

/-- HT_CONV_HUMIDITY (R135), on `h_hi, h_lo`. -/
def execHtConvHumidity (hi lo : Byte) (s : State) : Host.Outcome State Fault Refusal :=
  .next (s.finish (.number (htHumidity (be16 [hi, lo]))))

/-! ## Raw decoders (R136 to R138) -/

/-- The common beginning of the HT raw decoders (R136). -/
def htDecoded (raw : List Byte) (q : Rat) : Value := if raw.length = htDataLen then .avail q else .unavailable

/-- Temperature from a raw reading: bytes 0 and 1 (R137). -/
def htRawTemperature (raw : List Byte) : Value := htDecoded raw (htTemperature (be16 (slice raw 0 2)))

/-- Humidity from a raw reading: bytes 2 and 3 (R138). -/
def htRawHumidity (raw : List Byte) : Value := htDecoded raw (htHumidity (be16 (slice raw 2 4)))

/-- HT_DECODE_TEMPERATURE (R137). -/
def execHtDecodeTemperature (raw : List Byte) (s : State) : Host.Outcome State Fault Refusal :=
  .next (s.finish (.value (htRawTemperature raw)))

/-- HT_DECODE_HUMIDITY (R138). -/
def execHtDecodeHumidity (raw : List Byte) (s : State) : Host.Outcome State Fault Refusal :=
  .next (s.finish (.value (htRawHumidity raw)))

/-! ## Close (R139) -/

/-- The close, returning `r`. -/
def htCloseWith (r : Result) (s : State) : State :=
  htGuard 0x37 (closeBegin .H (fun s => (s.setHt ⟨.closed, false⟩).finish r)) s

/-- HT_CLOSE (R139). -/
def execHtClose (s : State) : Host.Outcome State Fault Refusal := .next (htCloseWith .ok s)

end Sys2Proof.Machine
end

