-- ==== Sys2Proof/Machine/Facade.lean ====
section
/-! DEFINITION. The measurement façade (spec/45_measure.md R150 to R159). One loop body serves the five measurements. The
exchange list of a measurement is its construction's, then the readiness test (`pollStep`), the fetch (`pollStep + 1`) and the
Release; a failed attempt goes back to `pollStep` (DESIGN CHOICE, notes/assumptions/18.md). At `pollStep` with idle ports, `M.phase` says what the next step is: Construct
or Sleep, the readiness test; Poll, Fetch or Decode, the Sleep after a failed attempt. The step that consumes the last answer
also decodes it and closes (notes/assumptions/7.md). -/

namespace Sys2Proof.Machine

/-- The five measurements (R151 to R155). -/
inductive Quantity where
  | pressure
  | altitude
  | temperaturePt
  | humidity
  | temperatureHt
  deriving DecidableEq, Repr

namespace Quantity

/-- The driver a measurement uses. -/
def sensor : Quantity → Sensor
  | .pressure | .altitude | .temperaturePt => .PT
  | .humidity | .temperatureHt => .HT

/-- The PT mode it constructs with; the PT temperature uses Barometric (R153). The HT driver has none, and its value is not read. -/
def mode : Quantity → Mode
  | .altitude => .altitude
  | .pressure | .temperaturePt | .humidity | .temperatureHt => .barometric

/-- The decoder it uses. -/
def decode : Quantity → List Byte → Value
  | .pressure => ptPressure
  | .altitude => ptAltitude
  | .temperaturePt => ptTemperature
  | .humidity => htRawHumidity
  | .temperatureHt => htRawTemperature

/-- The operation that takes it. -/
def op : Quantity → Instr
  | .pressure => .mPressure
  | .altitude => .mAltitude
  | .temperaturePt => .mTemperaturePt
  | .humidity => .mHumidity
  | .temperatureHt => .mTemperatureHt

end Quantity

/-- The index of the readiness test in a measurement's exchange list: after the construction's. -/
def pollStep : Sensor → Nat
  | .PT => 4
  | .HT => 3

/-- `MAX_POLLS != UNBOUNDED and M.fails >= MAX_POLLS` (R150). -/
def pollsExhausted (limit : MaxPolls) (fails : Nat) : Bool :=
  match limit with
  | .unbounded => false
  | .bound k => decide (k ≤ fails)

/-- `CONSTRUCT(drv, mode)`, its beginning. -/
def constructBegin (q : Quantity) (s : State) : State :=
  match q.sensor with
  | .PT => ptConstructBegin q.op s
  | .HT => htConstructBegin q.op s

/-- `IS_READY(drv)`, its read. -/
def isReadyBegin (q : Quantity) (s : State) : State :=
  match q.sensor with
  | .PT => ptIsReadyBegin q.op (pollStep .PT) s
  | .HT => htIsReadyBegin q.op (pollStep .HT) s

/-- `CLOSE(drv)`, returning `r`. -/
def closeWith (q : Quantity) (r : Result) (s : State) : State :=
  match q.sensor with
  | .PT => ptCloseWith r s
  | .HT => htCloseWith r s

/-- A failed attempt: it counts, and at the bound the driver is closed and Timeout returned without a further sleep (R156). -/
def failedAttempt (q : Quantity) (s : State) : State :=
  let s := s.setFails (s.m.fails + 1)
  if pollsExhausted s.cfg.maxPolls s.m.fails then
    closeWith q (.measure (.error .timeout q.sensor .poll)) (s.setPhase .close)
  else s.moveTo q.op (pollStep q.sensor)

/-- The construction has returned Ok: `M.fails <- 0`, and the loop begins. -/
def constructed (q : Quantity) (s : State) : State := (s.setFails 0).moveTo q.op (pollStep q.sensor)

/-- The construction has raised BusUnavailable: nothing was opened and nothing is closed (R150, R157). -/
def constructFailed (q : Quantity) (s : State) : State := s.finish (.measure (.error .busUnavailable q.sensor .openBus))

/-- The construction on an answer. -/
def constructAnswer (q : Quantity) (k : Nat) (ans : Answer) (s : State) : Option State :=
  match q.sensor with
  | .PT => ptConstructAnswer q.op q.mode (constructed q) (constructFailed q) k ans s
  | .HT => htConstructAnswer q.op (constructed q) (constructFailed q) k ans s

/-- The construction goes on. -/
def constructProceed (q : Quantity) (k : Nat) (s : State) : Option State :=
  match q.sensor with
  | .PT => ptConstructProceed q.op q.mode k s
  | .HT => htConstructProceed q.op k s

/-- The latch a readiness test leaves. -/
def driverReady (q : Quantity) (s : State) : Bool :=
  match q.sensor with
  | .PT => s.pt.ready
  | .HT => s.ht.ready

/-- `IS_READY(drv)` on its answer: the latch is written; ready goes on to the fetch, not ready is a failed attempt. -/
def pollAnswer (q : Quantity) (st : Int) (d : List Byte) (s : State) : State :=
  let s := match q.sensor with
    | .PT => ptIsReadyEnd st d s
    | .HT => htIsReadyEnd st d s
  if driverReady q s then s.moveTo q.op (pollStep q.sensor + 1) else failedAttempt q s

/-- `FETCH_RAW(drv)`, its read; NotReady is a failed attempt. -/
def fetchBegin (q : Quantity) (s : State) : State :=
  match q.sensor with
  | .PT => ptFetchBegin q.op (pollStep .PT + 1) (failedAttempt q) s
  | .HT => htFetchBegin q.op (pollStep .HT + 1) (failedAttempt q) s

/-- A value ends the measurement: the driver is closed and `Done(q)` returned; Unavailable is a failed attempt. -/
def decoded (q : Quantity) (v : Value) (s : State) : State :=
  match v with
  | .avail x => closeWith q (.measure (.done x)) (s.setPhase .close)
  | .unavailable => failedAttempt q s

/-- `FETCH_RAW(drv)` on its answer: Ready goes on to the decoder, TransportError is a failed attempt. -/
def fetchAnswer (q : Quantity) (st : Int) (d : List Byte) (s : State) : State :=
  match fetchResult (decodeResult st d) with
  | .ready raw => decoded q (q.decode raw) (s.setPhase .decode)
  | .notReady => failedAttempt q s
  | .transportError _ => failedAttempt q s

/-- `MEASURE` begins (R150). -/
def measureBegin (q : Quantity) (s : State) : State := constructBegin q (s.setPhase .construct)

/-- `MEASURE` on an answer. -/
def measureAnswer (q : Quantity) (k : Nat) (ans : Answer) (s : State) : Option State :=
  if k < pollStep q.sensor then constructAnswer q k ans s
  else if k = pollStep q.sensor then
    match ans with
    | .transport st d => some (pollAnswer q st d s)
    | .claim _ => none
  else if k = pollStep q.sensor + 1 then
    match ans with
    | .transport st d => some (fetchAnswer q st d s)
    | .claim _ => none
  else none

/-- `MEASURE` at the loop's head: the readiness test after the construction or a Sleep, the Sleep after a failed attempt. "`Sleep(t)`
is one Sequencer step that sets `M.phase` = Sleep and changes nothing else. The step after it sets `M.phase` = Poll" (R205). -/
def loopHead (q : Quantity) (s : State) : Option State :=
  match s.m.phase with
  | .construct => some (isReadyBegin q (s.setPhase .poll))
  | .sleep => some (isReadyBegin q (s.setPhase .poll))
  | .poll => some (s.setPhase .sleep)
  | .fetch => some (s.setPhase .sleep)
  | .decode => some (s.setPhase .sleep)
  | .close => none

/-- `MEASURE` goes on at exchange `k`. -/
def measureProceed (q : Quantity) (k : Nat) (s : State) : Option State :=
  if k < pollStep q.sensor then constructProceed q k s
  else if k = pollStep q.sensor then loopHead q s
  else if k = pollStep q.sensor + 1 then some (fetchBegin q (s.setPhase .fetch))
  else none

/-- M_PRESSURE (R151). -/
def execMPressure (s : State) : Host.Outcome State Fault Refusal := .next (measureBegin .pressure s)

/-- M_ALTITUDE (R152). -/
def execMAltitude (s : State) : Host.Outcome State Fault Refusal := .next (measureBegin .altitude s)

/-- M_TEMPERATURE_PT (R153). -/
def execMTemperaturePt (s : State) : Host.Outcome State Fault Refusal := .next (measureBegin .temperaturePt s)

/-- M_HUMIDITY (R154). -/
def execMHumidity (s : State) : Host.Outcome State Fault Refusal := .next (measureBegin .humidity s)

/-- M_TEMPERATURE_HT (R155). -/
def execMTemperatureHt (s : State) : Host.Outcome State Fault Refusal := .next (measureBegin .temperatureHt s)

end Sys2Proof.Machine
end

