-- ==== Sys2Proof/Machine/Resume.lean ====
section
/-! DEFINITION. A running operation after its first step: what the Sequencer does with the answer of exchange `k` of the operation
(`answer`), and what it does at exchange `k` with both ports idle (`proceed`), one arm per instruction (spec/10_state.md R28).
`none` says that the operation has no such position. -/

namespace Sys2Proof.Machine

/-- The Sequencer consumes the answer of exchange `k` of operation `i`; the port is idle again. -/
def answer (i : Instr) (k : Nat) (ans : Answer) (s : State) : Option State :=
  match i with
  | .tokEnd => none
  | .tokEscape _ => none
  | .tokStart => none
  | .tokStop => none
  | .tokAddress _ => none
  | .tokFlags => none
  | .tokRead _ => none
  | .tokWrite _ => none
  | .encWrite _ _ _ => none
  | .encReadComb _ _ _ => none
  | .encSplitPtr _ _ => none
  | .encSplitRead _ _ => none
  | .decResult _ _ => none
  | .chOpen ch => answerChOpen ch k ans s
  | .chRead _ _ _ _ => answerTransport k ans s
  | .chWrite _ _ _ _ => answerTransport k ans s
  | .chWrite1 _ _ _ _ => answerTransport k ans s
  | .chClose _ => none
  | .pwSetPointer _ _ => answerPwSetPointer k ans s
  | .pwReadAfterPointer _ _ => answerTransport k ans s
  | .ptConstruct m => answerPtConstruct m k ans s
  | .ptSelectAltitude => answerSelect .ptSelectAltitude .altitude k ans s
  | .ptSelectBarometric => answerSelect .ptSelectBarometric .barometric k ans s
  | .ptIsReady => answerPtIsReady k ans s
  | .ptFetchRaw => answerFetch k ans s
  | .ptDecodeAltitude _ => none
  | .ptDecodePressure _ => none
  | .ptDecodeTemperature _ => none
  | .ptClose => none
  | .htConstruct => answerHtConstruct k ans s
  | .htIsReady => answerHtIsReady k ans s
  | .htFetchRaw => answerFetch k ans s
  | .htConvTemperature _ _ => none
  | .htConvHumidity _ _ => none
  | .htDecodeTemperature _ => none
  | .htDecodeHumidity _ => none
  | .htClose => none
  | .twos _ _ => none
  | .mPressure => measureAnswer .pressure k ans s
  | .mAltitude => measureAnswer .altitude k ans s
  | .mTemperaturePt => measureAnswer .temperaturePt k ans s
  | .mHumidity => measureAnswer .humidity k ans s
  | .mTemperatureHt => measureAnswer .temperatureHt k ans s

/-- The Sequencer goes on with operation `i` at exchange `k`, both ports idle. -/
def proceed (i : Instr) (k : Nat) (s : State) : Option State :=
  match i with
  | .tokEnd => none
  | .tokEscape _ => none
  | .tokStart => none
  | .tokStop => none
  | .tokAddress _ => none
  | .tokFlags => none
  | .tokRead _ => none
  | .tokWrite _ => none
  | .encWrite _ _ _ => none
  | .encReadComb _ _ _ => none
  | .encSplitPtr _ _ => none
  | .encSplitRead _ _ => none
  | .decResult _ _ => none
  | .chOpen _ => none
  | .chRead _ _ _ _ => none
  | .chWrite _ _ _ _ => none
  | .chWrite1 _ _ _ _ => none
  | .chClose _ => none
  | .pwSetPointer _ _ => none
  | .pwReadAfterPointer _ _ => none
  | .ptConstruct m => ptConstructProceed (.ptConstruct m) m k s
  | .ptSelectAltitude => proceedSelect .ptSelectAltitude .altitude k s
  | .ptSelectBarometric => proceedSelect .ptSelectBarometric .barometric k s
  | .ptIsReady => none
  | .ptFetchRaw => none
  | .ptDecodeAltitude _ => none
  | .ptDecodePressure _ => none
  | .ptDecodeTemperature _ => none
  | .ptClose => none
  | .htConstruct => htConstructProceed .htConstruct k s
  | .htIsReady => none
  | .htFetchRaw => none
  | .htConvTemperature _ _ => none
  | .htConvHumidity _ _ => none
  | .htDecodeTemperature _ => none
  | .htDecodeHumidity _ => none
  | .htClose => none
  | .twos _ _ => none
  | .mPressure => measureProceed .pressure k s
  | .mAltitude => measureProceed .altitude k s
  | .mTemperaturePt => measureProceed .temperaturePt k s
  | .mHumidity => measureProceed .humidity k s
  | .mTemperatureHt => measureProceed .temperatureHt k s

end Sys2Proof.Machine
end

