-- ==== Sys2Proof/Machine/Agents.lean ====
section
/-! DEFINITION. The agents of spec/00_scope.md R7, one step each: the Transport answers a Busy port, the claim port answers, the
Caller issues the next frame, and the Sequencer consumes an answer or goes on. An agent that has nothing to say leaves the state
as it is: the Transport may never answer (70_reset_and_hazards.md R200), and the block waits for the Caller (R190). -/

namespace Sys2Proof.Machine

/-- An operation that has no such position stops the model (`Fault.noSuchPosition`). -/
def orNoPosition : Option State → Host.Outcome State Fault Refusal
  | some s => .next s
  | none => .fault .noSuchPosition

/-- The Transport's only step: Busy(prog) to Answered(st, d), with the next answer it gives (10_state.md R27). -/
def transportStep (s : State) : State :=
  match s.io.answers with
  | [] => s
  | (st, d) :: rest => { s with port := .answered st d, io := { s.io with answers := rest } }

/-- The claim port's answer to `Claim()` (R27). -/
def claimStep (s : State) : State :=
  match s.io.claims with
  | [] => s
  | ok :: rest => { s with claim := .answered ok, io := { s.io with claims := rest } }

/-- The Sequencer consumes the Transport's answer and returns the port to Idle (R27). -/
def consumeTransport (st : Int) (d : List Byte) (s : State) : Host.Outcome State Fault Refusal :=
  match s.seq with
  | .exec op k => orNoPosition (answer op k (.transport st d) { s with port := .idle })
  | .idle => .fault .noSuchPosition

/-- The Sequencer consumes the claim's answer and returns the claim port to Idle (R27). -/
def consumeClaim (ok : Bool) (s : State) : Host.Outcome State Fault Refusal :=
  match s.seq with
  | .exec op k => orNoPosition (answer op k (.claim ok) { s with claim := .idle })
  | .idle => .fault .noSuchPosition

/-- The Caller issues the next frame: it leaves the queue, and the result of the operation before is gone from the port. -/
def takeFrame (s : State) (rest : List (List Byte)) : State := { s with io := { s.io with frames := rest, result := none } }

/-- The refusal a malformed frame records (30_encoding.md R72). -/
def frameRefusal : FrameError → Refusal
  | .unknownOpcode => .unknownOpcode
  | .badOperand => .badOperand

/-- The reset event (70_reset_and_hazards.md R190): every field of R20 takes its reset value. It "makes no exchange" and does not
touch the devices (R191), so the record of exchanges and the oracle's answers stay; the instance keeps its parameters, and the
command port holds no result. A reset begins a new run, so no step performs one (notes/assumptions/8.md). -/
def resetEvent (s : State) : State :=
  { State.reset with cfg := s.cfg, io := { s.io with result := none } }

/-- A frame as the next one the Caller issues, with nothing running. -/
def State.withFrame (s : State) (frame : List Byte) : State :=
  { s with seq := .idle, port := .idle, claim := .idle, io := { s.io with frames := frame :: s.io.frames } }

end Sys2Proof.Machine
end

