-- ==== Sys2Proof/Machine/Tokens.lean ====
section
/-! DEFINITION. The transaction tokens (spec/40_tokens.md R80 to R87). "The block does not execute tokens. It emits them": the
meaning of a token is its emission. It appends the token and its operand elements to the program being assembled, refusing an
operand outside R65, and END, which no element follows, ends the program and hands it back as the encoders do
(notes/assumptions/5.md). -/

namespace Sys2Proof.Machine

/-- Append elements to the program being assembled. -/
def State.emit (s : State) (es : List Byte) : State := { s with asm := s.asm ++ es }

/-- END (R80): "it terminates the program, and no element follows it". -/
def execTokEnd (s : State) : Host.Outcome State Fault Refusal :=
  .next ({ s with asm := [] }.finish (.program (s.asm ++ [tokEND])))

/-- ESCAPE (R81): "the following value is a literal count/byte rather than another opcode". -/
def execTokEscape (x : Byte) (s : State) : Host.Outcome State Fault Refusal := .next (s.emit [tokESCAPE, x])

/-- START (R82). -/
def execTokStart (s : State) : Host.Outcome State Fault Refusal := .next (s.emit [tokSTART])

/-- STOP (R83). -/
def execTokStop (s : State) : Host.Outcome State Fault Refusal := .next (s.emit [tokSTOP])

/-- ADDRESS (R84): "select address"; "the block refuses a ≥ 128 before emitting". -/
def execTokAddress (a : Nat) (s : State) : Host.Outcome State Fault Refusal :=
  .next (if 128 ≤ a then s.refuse .badAddress else s.emit [tokADDRESS, byte a])

/-- FLAGS (R85): "A model must not give FLAGS operands or a meaning". -/
def execTokFlags (_ : State) : Host.Outcome State Fault Refusal := .refused .flagsHasNoMeaning

/-- READ (R86): the count of bytes to read, 2..255 in RC and 1..255 in SR. A token executed on its own has no shape, and 1..255 is
taken: DESIGN CHOICE (notes/assumptions/19.md). -/
def execTokRead (count : Nat) (s : State) : Host.Outcome State Fault Refusal :=
  .next (if count < 1 ∨ 255 < count then s.refuse .badLength else s.emit [tokREAD, byte count])

/-- WRITE (R87): with its operand under the instance's `ESCAPE_WRITE_LENGTH`; a counted payload has 1..254 bytes (R65). -/
def execTokWrite (arg : WriteArg) (s : State) : Host.Outcome State Fault Refusal :=
  .next (if arg.wf then s.emit (tokWRITE :: arg.encode s.cfg.escapeWriteLength) else s.refuse .badLength)

end Sys2Proof.Machine
end

