-- ==== Sys2Proof/Machine/Dispatch.lean ====
section
/-! DEFINITION. The meaning of every instruction, one arm each. -/

namespace Sys2Proof.Machine

def exec (i : Instr) (s : State) : Host.Outcome State Fault Refusal :=
  match i with
  | .tokEnd => Sys2Proof.Machine.execTokEnd s
  | .tokEscape x => Sys2Proof.Machine.execTokEscape x s
  | .tokStart => Sys2Proof.Machine.execTokStart s
  | .tokStop => Sys2Proof.Machine.execTokStop s
  | .tokAddress a => Sys2Proof.Machine.execTokAddress a s
  | .tokFlags => Sys2Proof.Machine.execTokFlags s
  | .tokRead count => Sys2Proof.Machine.execTokRead count s
  | .tokWrite arg => Sys2Proof.Machine.execTokWrite arg s
  | .encWrite a r p => Sys2Proof.Machine.execEncWrite a r p s
  | .encReadComb a r l => Sys2Proof.Machine.execEncReadComb a r l s
  | .encSplitPtr a r => Sys2Proof.Machine.execEncSplitPtr a r s
  | .encSplitRead a l => Sys2Proof.Machine.execEncSplitRead a l s
  | .decResult st d => Sys2Proof.Machine.execDecResult st d s
  | .chOpen ch => Sys2Proof.Machine.execChOpen ch s
  | .chRead ch a r l => Sys2Proof.Machine.execChRead ch a r l s
  | .chWrite ch a r p => Sys2Proof.Machine.execChWrite ch a r p s
  | .chWrite1 ch a r b => Sys2Proof.Machine.execChWrite1 ch a r b s
  | .chClose ch => Sys2Proof.Machine.execChClose ch s
  | .pwSetPointer a r => Sys2Proof.Machine.execPwSetPointer a r s
  | .pwReadAfterPointer a l => Sys2Proof.Machine.execPwReadAfterPointer a l s
  | .ptConstruct mode => Sys2Proof.Machine.execPtConstruct mode s
  | .ptSelectAltitude => Sys2Proof.Machine.execPtSelectAltitude s
  | .ptSelectBarometric => Sys2Proof.Machine.execPtSelectBarometric s
  | .ptIsReady => Sys2Proof.Machine.execPtIsReady s
  | .ptFetchRaw => Sys2Proof.Machine.execPtFetchRaw s
  | .ptDecodeAltitude raw => Sys2Proof.Machine.execPtDecodeAltitude raw s
  | .ptDecodePressure raw => Sys2Proof.Machine.execPtDecodePressure raw s
  | .ptDecodeTemperature raw => Sys2Proof.Machine.execPtDecodeTemperature raw s
  | .ptClose => Sys2Proof.Machine.execPtClose s
  | .htConstruct => Sys2Proof.Machine.execHtConstruct s
  | .htIsReady => Sys2Proof.Machine.execHtIsReady s
  | .htFetchRaw => Sys2Proof.Machine.execHtFetchRaw s
  | .htConvTemperature hi lo => Sys2Proof.Machine.execHtConvTemperature hi lo s
  | .htConvHumidity hi lo => Sys2Proof.Machine.execHtConvHumidity hi lo s
  | .htDecodeTemperature raw => Sys2Proof.Machine.execHtDecodeTemperature raw s
  | .htDecodeHumidity raw => Sys2Proof.Machine.execHtDecodeHumidity raw s
  | .htClose => Sys2Proof.Machine.execHtClose s
  | .twos w v => Sys2Proof.Machine.execTwos w v s
  | .mPressure => Sys2Proof.Machine.execMPressure s
  | .mAltitude => Sys2Proof.Machine.execMAltitude s
  | .mTemperaturePt => Sys2Proof.Machine.execMTemperaturePt s
  | .mHumidity => Sys2Proof.Machine.execMHumidity s
  | .mTemperatureHt => Sys2Proof.Machine.execMTemperatureHt s

end Sys2Proof.Machine
end

