-- ==== Sys2Proof/Machine/Step.lean ====
section
/-! DEFINITION. One step of the machine: the one agent that can move moves (spec/00_scope.md R7, 10_state.md R27, R28). -/

namespace Sys2Proof.Machine

/-- The Caller's move, with nothing running: the next frame is decoded and its operation begun; a malformed frame is refused by
name (30_encoding.md R72); with no frame the block waits. -/
def commandStep (s : State) : Host.Outcome State Fault Refusal :=
  match s.io.frames with
  | [] => .next s
  | frame :: rest =>
    match decodeFrame frame with
    | .error e => .next ((takeFrame s rest).refuse (frameRefusal e))
    | .ok i => exec i (takeFrame s rest)

/-- One step: a Busy port waits for its answer, an Answered one is consumed, and with both ports idle the running operation goes
on, or the Caller issues the next one. -/
def step (s : State) : Host.Outcome State Fault Refusal :=
  match s.port with
  | .busy _ => .next (transportStep s)
  | .answered st d => consumeTransport st d s
  | .idle =>
    match s.claim with
    | .busy => .next (claimStep s)
    | .answered ok => consumeClaim ok s
    | .idle =>
      match s.seq with
      | .exec op k => orNoPosition (proceed op k s)
      | .idle => commandStep s

/-- The table word as the next command frame, with nothing running (notes/assumptions/4.md). -/
def State.withFetchWord (s : State) (nbits w : Nat) : State := s.withFrame (tableFrame nbits w)

end Sys2Proof.Machine
end

