-- ==== Sys2Proof/Machine/Text.lean ====
section
/-! DEFINITION. The textual syntax of spec/30_encoding.md R73 and the pseudo-operations of R74. -/

namespace Sys2Proof.Machine

/-- The mnemonic of an instruction (R61, R71). -/
def mnemonic : Instr → String
  | .tokEnd => "END"
  | .tokEscape _ => "ESCAPE"
  | .tokStart => "START"
  | .tokStop => "STOP"
  | .tokAddress _ => "ADDRESS"
  | .tokFlags => "FLAGS"
  | .tokRead _ => "READ"
  | .tokWrite _ => "WRITE"
  | .encWrite _ _ _ => "ENC_WRITE"
  | .encReadComb _ _ _ => "ENC_READ_COMB"
  | .encSplitPtr _ _ => "ENC_SPLIT_PTR"
  | .encSplitRead _ _ => "ENC_SPLIT_READ"
  | .decResult _ _ => "DEC_RESULT"
  | .chOpen _ => "CH_OPEN"
  | .chRead _ _ _ _ => "CH_READ"
  | .chWrite _ _ _ _ => "CH_WRITE"
  | .chWrite1 _ _ _ _ => "CH_WRITE1"
  | .chClose _ => "CH_CLOSE"
  | .pwSetPointer _ _ => "PW_SET_POINTER"
  | .pwReadAfterPointer _ _ => "PW_READ_AFTER_POINTER"
  | .ptConstruct _ => "PT_CONSTRUCT"
  | .ptSelectAltitude => "PT_SELECT_ALTITUDE"
  | .ptSelectBarometric => "PT_SELECT_BAROMETRIC"
  | .ptIsReady => "PT_IS_READY"
  | .ptFetchRaw => "PT_FETCH_RAW"
  | .ptDecodeAltitude _ => "PT_DECODE_ALTITUDE"
  | .ptDecodePressure _ => "PT_DECODE_PRESSURE"
  | .ptDecodeTemperature _ => "PT_DECODE_TEMPERATURE"
  | .ptClose => "PT_CLOSE"
  | .htConstruct => "HT_CONSTRUCT"
  | .htIsReady => "HT_IS_READY"
  | .htFetchRaw => "HT_FETCH_RAW"
  | .htConvTemperature _ _ => "HT_CONV_TEMPERATURE"
  | .htConvHumidity _ _ => "HT_CONV_HUMIDITY"
  | .htDecodeTemperature _ => "HT_DECODE_TEMPERATURE"
  | .htDecodeHumidity _ => "HT_DECODE_HUMIDITY"
  | .htClose => "HT_CLOSE"
  | .twos _ _ => "TWOS"
  | .mPressure => "M_PRESSURE"
  | .mAltitude => "M_ALTITUDE"
  | .mTemperaturePt => "M_TEMPERATURE_PT"
  | .mHumidity => "M_HUMIDITY"
  | .mTemperatureHt => "M_TEMPERATURE_HT"

/-- A number in hexadecimal, `0x` and at least two digits. -/
def hexText (n : Nat) : String :=
  let ds := (Nat.toDigits 16 n).map Char.toUpper
  "0x" ++ String.ofList (if n < 16 then '0' :: ds else ds)

/-- A byte operand. -/
def byteText (b : Byte) : String := hexText b.toNat

/-- A channel operand. -/
def channelText : Channel → String
  | .P => "CH_P"
  | .H => "CH_H"

/-- A mode operand. -/
def modeText : Mode → String
  | .altitude => "Altitude"
  | .barometric => "Barometric"

/-- A counted sequence: its count and its bytes. -/
def countedText (bs : List Byte) : List String := toString bs.length :: bs.map byteText

/-- The elements after a WRITE token, each as text. -/
def writeArgText (e : Bool) : WriteArg → List String
  | .pointer r => ["ESCAPE", byteText r]
  | .counted r p => (if e then ["ESCAPE"] else []) ++ hexText (p.length + 1) :: byteText r :: p.map byteText

/-- The operands of an instruction as text, in frame order; for a token its operand elements. -/
def operandTexts (e : Bool) : Instr → List String
  | .tokEnd => []
  | .tokEscape x => [byteText x]
  | .tokStart => []
  | .tokStop => []
  | .tokAddress a => [hexText a]
  | .tokFlags => []
  | .tokRead c => [hexText c]
  | .tokWrite arg => writeArgText e arg
  | .encWrite a r p => hexText a :: byteText r :: countedText p
  | .encReadComb a r l => [hexText a, byteText r, toString l]
  | .encSplitPtr a r => [hexText a, byteText r]
  | .encSplitRead a l => [hexText a, toString l]
  | .decResult st d => toString st :: countedText d
  | .chOpen ch => [channelText ch]
  | .chRead ch a r l => [channelText ch, hexText a, byteText r, toString l]
  | .chWrite ch a r p => channelText ch :: hexText a :: byteText r :: countedText p
  | .chWrite1 ch a r b => [channelText ch, hexText a, byteText r, byteText b]
  | .chClose ch => [channelText ch]
  | .pwSetPointer a r => [hexText a, byteText r]
  | .pwReadAfterPointer a l => [hexText a, toString l]
  | .ptConstruct m => [modeText m]
  | .ptSelectAltitude => []
  | .ptSelectBarometric => []
  | .ptIsReady => []
  | .ptFetchRaw => []
  | .ptDecodeAltitude raw => countedText raw
  | .ptDecodePressure raw => countedText raw
  | .ptDecodeTemperature raw => countedText raw
  | .ptClose => []
  | .htConstruct => []
  | .htIsReady => []
  | .htFetchRaw => []
  | .htConvTemperature hi lo => [byteText hi, byteText lo]
  | .htConvHumidity hi lo => [byteText hi, byteText lo]
  | .htDecodeTemperature raw => countedText raw
  | .htDecodeHumidity raw => countedText raw
  | .htClose => []
  | .twos w v => [toString w, hexText v.toNat]
  | .mPressure => []
  | .mAltitude => []
  | .mTemperaturePt => []
  | .mHumidity => []
  | .mTemperatureHt => []

/-- "An operation is written as its mnemonic followed by its operands in frame order" (R73). -/
def operationText (i : Instr) : String :=
  match operandTexts true i with
  | [] => mnemonic i
  | xs => mnemonic i ++ " " ++ ", ".intercalate xs

/-- "A program is written as a bracketed list of its elements in index order" (R73); `none` where it is no program of the shape. -/
def programText (e : Bool) (sh : Shape) (prog : List Byte) : Option String :=
  (decodeProgram sh e prog).map fun ts =>
    "[" ++ ", ".intercalate (ts.flatMap fun t => mnemonic t :: operandTexts e t) ++ "]"

/-- The operations a pseudo-operation stands for (R74): `CH_WRITE1` is `CH_WRITE` with a one-byte sequence. -/
def expandPseudo : Instr → List Instr
  | .chWrite1 ch a r b => [.chWrite ch a r [b]]
  | i => [i]

/-- The two program shapes of the source's one call `encode_read` (R74). -/
inductive ReadForm where
  | combined
  | split
  deriving DecidableEq, Repr

/-- `encode_read(address, register, length)`: `ENC_READ_COMB`, or `ENC_SPLIT_PTR` then `ENC_SPLIT_READ` (R74). -/
def encodeReadCall (form : ReadForm) (a : Nat) (r : Byte) (l : Nat) : List Instr :=
  match form with
  | .combined => [.encReadComb a r l]
  | .split => [.encSplitPtr a r, .encSplitRead a l]

end Sys2Proof.Machine
end

