-- ==== Sys2Proof/Safety.lean ====
section
/-! DEFINITION. What counts as a run without a logic error (spec/10_state.md R30), and the invariant every step keeps: the states
the block can be in (R23 to R28, 43_pressure.md R111, 45_measure.md R150, R156). -/

namespace Sys2Proof.Machine

/-- "no fault recorded and nothing refused", the premise of every claim about a run (R30). -/
def State.clean (s : State) : Prop := s.faults = [] ∧ s.refused = []

/-- Nothing runs and both ports are idle: the block waits for the Caller. -/
def State.quiet (s : State) : Prop := s.seq = .idle ∧ s.port = .idle ∧ s.claim = .idle

/-- A final state: nothing runs, and "a state with a non-empty `faults` or `refused` is never final" (R30). -/
def State.final (s : State) : Prop := s.quiet ∧ s.clean

/-- `n` steps lead from `s` to `t`. -/
def runsTo (n : Nat) (s t : State) : Prop := Host.Core.run core n s = .next t

/-- The instructions of a list one after another. -/
def execAll : List Instr → State → Host.Outcome State Fault Refusal
  | [], s => .next s
  | i :: is, s =>
    match exec i s with
    | .next t => execAll is t
    | .fault f => .fault f
    | .refused r => .refused r

/-- Both ports are idle. -/
def State.atRest (s : State) : Prop := s.port = .idle ∧ s.claim = .idle

/-- A claim is being answered. -/
def State.claiming (s : State) : Prop := s.port = .idle ∧ s.claim ≠ .idle

/-- A program is with the Transport or answered. -/
def State.transacting (s : State) : Prop := s.port ≠ .idle ∧ s.claim = .idle

/-- Both channels are Closed. -/
def State.bothClosed (s : State) : Prop := s.chP = .closed ∧ s.chH = .closed

/-- Where a PT construction can stand (43_pressure.md R111). -/
def ptBuildPosition (k : Nat) (s : State) : Prop :=
  (k = 0 ∧ s.claiming ∧ s.pt.st ≠ .configured ∧ s.bothClosed) ∨
  (k = 1 ∧ s.claim = .idle ∧ s.pt.st ≠ .configured ∧ s.chP = .opened) ∨
  ((k = 2 ∨ k = 3) ∧ s.claim = .idle ∧ s.pt.st = .configured)

/-- Where an HT construction can stand (44_humidity.md R130). -/
def htBuildPosition (k : Nat) (s : State) : Prop :=
  (k = 0 ∧ s.claiming ∧ s.ht.st ≠ .configured ∧ s.bothClosed) ∨
  ((k = 1 ∨ k = 2) ∧ s.claim = .idle ∧ s.ht.st ≠ .configured ∧ s.chH = .opened)

/-- The construction positions of a measurement. -/
def buildPosition (q : Quantity) (k : Nat) (s : State) : Prop :=
  match q.sensor with
  | .PT => ptBuildPosition k s
  | .HT => htBuildPosition k s

/-- The exchange of a measurement's readiness test (43_pressure.md R114, 44_humidity.md R132). -/
def readinessExchange (q : Quantity) (c : Config) : Exchange :=
  match q.sensor with
  | .PT => .transact c.busId (shapeRC addrPt c.ptRegStatus ptStatusLen)
  | .HT => .transact c.busId (shapeSR addrHt c.htReadyLen)

/-- The exchange of a measurement's fetch (43_pressure.md R115, 44_humidity.md R133). -/
def fetchExchange (q : Quantity) (c : Config) : Exchange :=
  match q.sensor with
  | .PT => .transact c.busId (shapeRC addrPt c.ptRegData ptDataLen)
  | .HT => .transact c.busId (shapeSR addrHt htDataLen)

/-- The state field of a measurement's driver. -/
def driverSt (q : Quantity) (s : State) : DriverSt :=
  match q.sensor with
  | .PT => s.pt.st
  | .HT => s.ht.st

/-- The measurement's driver is Configured. -/
def driverConfigured (q : Quantity) (s : State) : Prop :=
  match q.sensor with
  | .PT => s.pt.st = .configured
  | .HT => s.ht.st = .configured

/-- Where a measurement can stand (45_measure.md R150): in its construction; at the loop's head, with the failures so far below
the bound (R156); in the readiness test; before the fetch, with the latch set; or in the fetch, with the latch cleared. -/
def measurePosition (q : Quantity) (k : Nat) (s : State) : Prop :=
  (k < pollStep q.sensor ∧ buildPosition q k s ∧ s.m.phase = .construct) ∨
  (k = pollStep q.sensor ∧ driverConfigured q s ∧ pollsExhausted s.cfg.maxPolls s.m.fails = false ∧
    ((s.atRest ∧ s.m.phase ≠ .close) ∨ (s.transacting ∧ s.m.phase = .poll))) ∨
  (k = pollStep q.sensor + 1 ∧ driverConfigured q s ∧ pollsExhausted s.cfg.maxPolls s.m.fails = false ∧
    ((s.atRest ∧ driverReady q s = true ∧ s.m.phase = .poll) ∨
      (s.transacting ∧ driverReady q s = false ∧ s.m.phase = .fetch)))

/-- Where a running operation can stand (10_state.md R28): the exchange it is at, with the channel or driver it needs. An
operation without exchanges never runs past the step that issues it. -/
def position (i : Instr) (k : Nat) (s : State) : Prop :=
  match i with
  | .tokEnd => False
  | .tokEscape _ => False
  | .tokStart => False
  | .tokStop => False
  | .tokAddress _ => False
  | .tokFlags => False
  | .tokRead _ => False
  | .tokWrite _ => False
  | .encWrite _ _ _ => False
  | .encReadComb _ _ _ => False
  | .encSplitPtr _ _ => False
  | .encSplitRead _ _ => False
  | .decResult _ _ => False
  | .chOpen ch => k = 0 ∧ s.claiming ∧ s.bothClosed ∧ s.owner ch ≠ .configured
  | .chRead ch _ _ _ => k = 0 ∧ s.transacting ∧ s.chan ch = .opened ∧ s.owner ch ≠ .configured
  | .chWrite ch _ _ _ => k = 0 ∧ s.transacting ∧ s.chan ch = .opened ∧ s.owner ch ≠ .configured
  | .chWrite1 ch _ _ _ => k = 0 ∧ s.transacting ∧ s.chan ch = .opened ∧ s.owner ch ≠ .configured
  | .chClose _ => False
  | .pwSetPointer _ _ => k = 0 ∧ s.transacting ∧ s.chH = .opened ∧ s.ht.st ≠ .configured
  | .pwReadAfterPointer _ _ => k = 0 ∧ s.transacting ∧ s.chH = .opened ∧ s.ht.st ≠ .configured
  | .ptConstruct _ => ptBuildPosition k s
  | .ptSelectAltitude => s.pt.st = .configured ∧ ((k = 0 ∧ s.transacting) ∨ (k = 1 ∧ s.claim = .idle))
  | .ptSelectBarometric => s.pt.st = .configured ∧ ((k = 0 ∧ s.transacting) ∨ (k = 1 ∧ s.claim = .idle))
  | .ptIsReady => k = 0 ∧ s.transacting ∧ s.pt.st = .configured
  | .ptFetchRaw => k = 0 ∧ s.transacting ∧ s.pt.st = .configured ∧ s.pt.ready = false
  | .ptDecodeAltitude _ => False
  | .ptDecodePressure _ => False
  | .ptDecodeTemperature _ => False
  | .ptClose => False
  | .htConstruct => htBuildPosition k s
  | .htIsReady => k = 0 ∧ s.transacting ∧ s.ht.st = .configured
  | .htFetchRaw => k = 0 ∧ s.transacting ∧ s.ht.st = .configured ∧ s.ht.ready = false
  | .htConvTemperature _ _ => False
  | .htConvHumidity _ _ => False
  | .htDecodeTemperature _ => False
  | .htDecodeHumidity _ => False
  | .htClose => False
  | .twos _ _ => False
  | .mPressure => measurePosition .pressure k s
  | .mAltitude => measurePosition .altitude k s
  | .mTemperaturePt => measurePosition .temperaturePt k s
  | .mHumidity => measurePosition .humidity k s
  | .mTemperatureHt => measurePosition .temperatureHt k s

/-- The sequencer position fits the ports and the drivers. -/
def State.wellPlaced (s : State) : Prop :=
  match s.seq with
  | .idle => s.atRest
  | .exec i k => position i k s

/-- The invariant of the machine. -/
structure State.Inv (s : State) : Prop where
  /-- The parameters have their types (00_scope.md R10). -/
  config : s.cfg.wf = true
  /-- "at most one of `CH_P.st` and `CH_H.st` is `Open`" (R23). -/
  oneOpen : ¬ (s.chP = .opened ∧ s.chH = .opened)
  /-- "Whenever `PT.st` is Configured, `CH_P.st` is Open" (R25). -/
  ptOpen : s.pt.st = .configured → s.chP = .opened
  /-- "Whenever `HT.st` is Configured, `CH_H.st` is Open" (R26). -/
  htOpen : s.ht.st = .configured → s.chH = .opened
  /-- `PT.mode` "is None whenever `PT.st` is not Configured" (R25). -/
  ptMode : s.pt.st ≠ .configured → s.pt.mode = .none
  /-- "Construction, mode selection and close clear it to false" (R24): a set latch belongs to a Configured driver. -/
  ptReady : s.pt.ready = true → s.pt.st = .configured
  /-- As for PT. -/
  htReady : s.ht.ready = true → s.ht.st = .configured
  /-- `faults` is a set. -/
  faultSet : s.faults.Nodup
  /-- `refused` is a set. -/
  refusedSet : s.refused.Nodup
  /-- A Busy port holds a well-formed program (40_tokens.md R88). -/
  busyProgram : ∀ p, s.port = .busy p → ∃ sh, programWellFormed s.cfg.escapeWriteLength sh p = true
  /-- The position fits. -/
  placed : s.wellPlaced

end Sys2Proof.Machine
end

