-- ==== Sys2Proof/Certificates/Slice0/Obligations.lean ====
section
/-! DEFINITION. The statements for the provers, from the numbered rules of spec/. Every statement is about the machine; none is
about a program. A run of `n` steps after the step that issues an operation is `runsTo n` (Safety.lean). -/

open Sys2Proof Sys2Proof.Machine

/-! ## Encodings -/

/-- 30_encoding.md R69 to R71: the command frame of every well-formed operation decodes to that operation.
The spec marks this as its own decision: 92_eei_decisions.md D7. -/
def Obligations.CommandFrameRoundTrip : Prop :=
  ∀ (e : Bool) (i : Instr), i.isToken = false → i.wf = true → decodeFrame (encode e i) = .ok i

/-- 30_encoding.md R69 to R72: a frame that decodes is the frame of the operation it decodes to, so no two frames mean one
operation and no operation is read from a frame it does not have.
That no frame with bytes after its operands decodes is, where it holds no counted sequence, the model's choice
(notes/assumptions/3.md).
The spec marks this as its own decision: 92_eei_decisions.md D7. -/
def Obligations.DecodedFrameIsTheOperationsFrame : Prop :=
  ∀ (e : Bool) (frame : List Byte) (i : Instr), decodeFrame frame = .ok i →
    i.isToken = false ∧ i.wf = true ∧ encode e i = frame

/-- 30_encoding.md R60, R61, R65 and 40_tokens.md: the elements of every well-formed token are read back as that token from the
front of a program, in a shape that has its WRITE form.
Which elements belong to a token is the model's choice (notes/assumptions/5.md), and so is that a READ count of 1 is read back whatever the
shape, where 40_tokens.md R86 gives 2..255 in RC (notes/assumptions/19.md). -/
def Obligations.TokenRoundTrip : Prop :=
  ∀ (e : Bool) (sh : Shape) (i : Instr) (rest : List Byte), i.isToken = true → i.wf = true →
    (∀ r, i = .tokWrite (.pointer r) → sh = .RC ∨ sh = .SP) → (∀ r p, i = .tokWrite (.counted r p) → sh = .W) →
    decodeToken sh e (encode e i ++ rest) = some (i, rest)

/-- Frames of 95_test_vectors.md P3 and V-DRV, and of R71, decode as the spec says. -/
def Obligations.WrittenFramesDecode : Prop :=
  decodeFrame [0x10, 0x00] = .ok (.chOpen .P) ∧
  decodeFrame [0x13, 0x00, 0x60, 0x13, 0x07] = .ok (.chWrite1 .P 0x60 0x13 0x07) ∧
  decodeFrame [0x12, 0x00, 0x60, 0x13, 0x01, 0x07] = .ok (.chWrite .P 0x60 0x13 [0x07]) ∧
  decodeFrame [0x11, 0x00, 0x60, 0x00, 0x01] = .ok (.chRead .P 0x60 0x00 1) ∧
  decodeFrame [0x05, 0xFF, 0xFF, 0xFF, 0xFF, 0x01, 0x08] = .ok (.decResult (-1) [0x08]) ∧
  decodeFrame [0x40, 0x18, 0xFF, 0xFF, 0x00] = .ok (.twos 24 0xFFFF00) ∧
  decodeFrame [0x50] = .ok .mPressure ∧
  decodeFrame [0x20, 0x03] = .error .badOperand ∧
  decodeFrame [0x60] = .error .unknownOpcode

/-- 30_encoding.md R71, R72: exactly the frames whose first byte is no opcode of R71 are refused as UnknownOpcode.
The spec marks this as its own decision: 92_eei_decisions.md D7. -/
def Obligations.UnknownOpcodeExactlyOutsideTheMap : Prop :=
  ∀ frame : List Byte, decodeFrame frame = .error .unknownOpcode ↔ ∃ op bs, frame = op :: bs ∧ op ∉ commandOpcodes

/-- 30_encoding.md R72: a frame cut short is refused as BadOperand; and (the model's choice, notes/assumptions/3.md) so is one with
bytes after its operands. -/
def Obligations.CutOrOverlongFramesAreBadOperand : Prop :=
  ∀ (e : Bool) (i : Instr), i.isToken = false → i.wf = true →
    (∀ n, n < (encode e i).length → decodeFrame ((encode e i).take n) = .error .badOperand) ∧
    (∀ x xs, decodeFrame (encode e i ++ x :: xs) = .error .badOperand)

/-- 10_state.md R28, 30_encoding.md R70: with nothing running and both ports idle, a step takes the Caller's next frame (it leaves
the queue, and the last result leaves the port) and begins the operation the frame decodes to.
The queue is the model's own (notes/assumptions/2.md), and that the last result leaves the port when a frame is taken is its choice
(notes/assumptions/13.md). -/
def Obligations.StepBeginsTheDecodedOperation : Prop :=
  ∀ (s : State) (frame : List Byte) (rest : List (List Byte)) (i : Instr), s.quiet → s.io.frames = frame :: rest →
    decodeFrame frame = .ok i → step s = exec i { s with io := { s.io with frames := rest, result := none } }

/-- 30_encoding.md R72, 60_exceptions.md R175: a malformed frame is taken, the last result leaves the port, the refusal is recorded, and
nothing else happens.
That the result port is emptied when a frame is taken is the model's choice (notes/assumptions/13.md), as the queue is
(notes/assumptions/2.md). -/
def Obligations.StepRecordsAMalformedFrame : Prop :=
  ∀ (s : State) (frame : List Byte) (rest : List (List Byte)), s.quiet → s.io.frames = frame :: rest →
    (decodeFrame frame = .error .unknownOpcode → step s = .next { s with
      refused := State.insertNew .unknownOpcode s.refused, io := { s.io with frames := rest, result := none } }) ∧
    (decodeFrame frame = .error .badOperand → step s = .next { s with
      refused := State.insertNew .badOperand s.refused, io := { s.io with frames := rest, result := none } })

/-! ## Transaction programs and tokens -/

/-- 40_tokens.md R88: the checker is true exactly of the layouts of R63 with operands within R65.
The spec marks this as its own decision: 92_eei_decisions.md D1 to D4, D35. -/
def Obligations.CheckerAcceptsExactlyTheLayouts : Prop :=
  ∀ (e : Bool) (prog : List Byte),
    (programWellFormed e .W prog = true ↔ ∃ a r p, a < 128 ∧ 1 ≤ p.length ∧ p.length ≤ 254 ∧
      prog = [0x04, byte a, 0x02, 0x07] ++ (if e then [0x01] else []) ++ [byte (p.length + 1), r] ++ p ++ [0x03, 0x00]) ∧
    (programWellFormed e .RC prog = true ↔ ∃ a r l, a < 128 ∧ 1 ≤ l ∧ l ≤ 254 ∧
      prog = [0x04, byte a, 0x02, 0x07, 0x01, r, 0x02, 0x06, byte (l + 1), 0x03, 0x00]) ∧
    (programWellFormed e .SP prog = true ↔ ∃ a r, a < 128 ∧
      prog = [0x04, byte a, 0x02, 0x07, 0x01, r, 0x03, 0x00]) ∧
    (programWellFormed e .SR prog = true ↔ ∃ a l, a < 128 ∧ 1 ≤ l ∧ l ≤ 255 ∧
      prog = [0x04, byte a, 0x02, 0x06, byte l, 0x03, 0x00])

/-- 40_tokens.md R80, R85, R88 and 30_encoding.md R60, R67: a well-formed program reads, in its shape, as well-formed tokens whose
elements are the program, with one END, the last, and no FLAGS. -/
def Obligations.WellFormedProgramsReadAsTokens : Prop :=
  ∀ (e : Bool) (sh : Shape) (prog : List Byte), programWellFormed e sh prog = true →
    ∃ ts, decodeProgram sh e prog = some ts ∧ ts.flatMap (encode e) = prog ∧ (∀ t ∈ ts, t.isToken = true ∧ t.wf = true) ∧
      ts.getLast? = some .tokEnd ∧ ts.count .tokEnd = 1 ∧ .tokFlags ∉ ts

/-- 30_encoding.md R64: with the write length escaped, W and RC can be the same bytes; without, they never are. -/
def Obligations.EscapedWriteCanCollideWithCombinedRead : Prop :=
  (∀ (a : Nat) (x : Byte), 2 ≤ x.toNat → shapeW true a 0x02 [0x06, x] = shapeRC a 0x03 (x.toNat - 1)) ∧
  (∀ (a a' : Nat) (r r' : Byte) (p : List Byte) (l : Nat), 1 ≤ p.length → p.length ≤ 254 →
    shapeW false a r p ≠ shapeRC a' r' l)

/-- 40_tokens.md R80 to R84, R86, R87 and 30_encoding.md R61, R65: executing a token emits it and its operand elements; END hands the
program back; an operand outside its range is refused. That emission is a token's meaning is the model's choice
(notes/assumptions/5.md).
That READ takes exactly 1..255 with no shape given, where R86 gives 2..255 in RC, is the model's choice too (notes/assumptions/19.md). -/
def Obligations.TokensAreEmittedWithTheirOperands : Prop :=
  ∀ s : State,
    exec .tokEnd s = .next { s with
      asm := [], seq := .idle, io := { s.io with result := some (.program (s.asm ++ [0x00])) } } ∧
    (∀ x, exec (.tokEscape x) s = .next { s with asm := s.asm ++ [0x01, x] }) ∧
    exec .tokStart s = .next { s with asm := s.asm ++ [0x02] } ∧
    exec .tokStop s = .next { s with asm := s.asm ++ [0x03] } ∧
    (∀ a, a < 128 → exec (.tokAddress a) s = .next { s with asm := s.asm ++ [0x04, byte a] }) ∧
    (∀ a, 128 ≤ a → exec (.tokAddress a) s = .next { s with
      seq := .idle, refused := State.insertNew .badAddress s.refused }) ∧
    (∀ c, 1 ≤ c → c ≤ 255 → exec (.tokRead c) s = .next { s with asm := s.asm ++ [0x06, byte c] }) ∧
    (∀ c, c = 0 ∨ 255 < c → exec (.tokRead c) s = .next { s with
      seq := .idle, refused := State.insertNew .badLength s.refused }) ∧
    (∀ r, exec (.tokWrite (.pointer r)) s = .next { s with asm := s.asm ++ [0x07, 0x01, r] }) ∧
    (∀ r p, 1 ≤ p.length → p.length ≤ 254 → exec (.tokWrite (.counted r p)) s = .next { s with
      asm := s.asm ++ ([0x07] ++ (if s.cfg.escapeWriteLength then [0x01] else []) ++ [byte (p.length + 1), r] ++ p) }) ∧
    (∀ r p, p.length = 0 ∨ 254 < p.length → exec (.tokWrite (.counted r p)) s = .next { s with
      seq := .idle, refused := State.insertNew .badLength s.refused })

/-- 30_encoding.md R63 with 40_tokens.md: emitting the tokens of a shape, from nothing assembled, ends exactly as the encoder of that
shape does, with the same program. -/
def Obligations.TokenSequencesAssembleTheEncodersPrograms : Prop :=
  ∀ (s : State) (a : Nat) (r : Byte), a < 128 → s.asm = [] →
    (∀ p, 1 ≤ p.length → p.length ≤ 254 →
      execAll [.tokAddress a, .tokStart, .tokWrite (.counted r p), .tokStop, .tokEnd] s = exec (.encWrite a r p) s) ∧
    (∀ l, 1 ≤ l → l ≤ 254 →
      execAll [.tokAddress a, .tokStart, .tokWrite (.pointer r), .tokStart, .tokRead (l + 1), .tokStop, .tokEnd] s =
        exec (.encReadComb a r l) s) ∧
    execAll [.tokAddress a, .tokStart, .tokWrite (.pointer r), .tokStop, .tokEnd] s = exec (.encSplitPtr a r) s ∧
    (∀ l, 1 ≤ l → l ≤ 255 →
      execAll [.tokAddress a, .tokStart, .tokRead l, .tokStop, .tokEnd] s = exec (.encSplitRead a l) s)

/-- 40_tokens.md R85: "A model must not give FLAGS operands or a meaning".
The spec marks this as its own decision: 92_eei_decisions.md D35. -/
def Obligations.FlagsHasNoMeaning : Prop := ∀ s : State, exec .tokFlags s = .refused .flagsHasNoMeaning

/-! ## The encoder and the result decoder -/

/-- 41_encoder.md R90, whole. -/
def Obligations.EncWriteReturnsTheWriteProgram : Prop :=
  ∀ (a : Nat) (r : Byte) (p : List Byte) (s : State), opcode (.encWrite a r p) = 0x01 ∧
    exec (.encWrite a r p) s = .next
      (if 128 ≤ a then { s with seq := .idle, refused := State.insertNew .badAddress s.refused }
      else if p.length < 1 ∨ 254 < p.length then
        { s with seq := .idle, refused := State.insertNew .badLength s.refused }
      else { s with
        seq := .idle
        io := { s.io with result := some (.program
          ([0x04, byte a, 0x02, 0x07] ++ (if s.cfg.escapeWriteLength then [0x01] else []) ++
            [byte (p.length + 1), r] ++ p ++ [0x03, 0x00])) } })

/-- 41_encoder.md R91, whole.
The spec marks this as its own decision: 92_eei_decisions.md D5. -/
def Obligations.EncReadCombReturnsTheCombinedProgram : Prop :=
  ∀ (a : Nat) (r : Byte) (l : Nat) (s : State), opcode (.encReadComb a r l) = 0x02 ∧
    exec (.encReadComb a r l) s = .next
      (if 128 ≤ a then { s with seq := .idle, refused := State.insertNew .badAddress s.refused }
      else if l < 1 ∨ 254 < l then { s with seq := .idle, refused := State.insertNew .badLength s.refused }
      else { s with
        seq := .idle
        io := { s.io with result := some (.program
          [0x04, byte a, 0x02, 0x07, 0x01, r, 0x02, 0x06, byte (l + 1), 0x03, 0x00]) } })

/-- 41_encoder.md R92, whole. -/
def Obligations.EncSplitPtrReturnsThePointerProgram : Prop :=
  ∀ (a : Nat) (r : Byte) (s : State), opcode (.encSplitPtr a r) = 0x03 ∧
    exec (.encSplitPtr a r) s = .next
      (if 128 ≤ a then { s with seq := .idle, refused := State.insertNew .badAddress s.refused }
      else { s with
        seq := .idle
        io := { s.io with result := some (.program [0x04, byte a, 0x02, 0x07, 0x01, r, 0x03, 0x00]) } })

/-- 41_encoder.md R93, whole.
The spec marks this as its own decision: 92_eei_decisions.md D5. -/
def Obligations.EncSplitReadReturnsTheReadProgram : Prop :=
  ∀ (a l : Nat) (s : State), opcode (.encSplitRead a l) = 0x04 ∧
    exec (.encSplitRead a l) s = .next
      (if 128 ≤ a then { s with seq := .idle, refused := State.insertNew .badAddress s.refused }
      else if l < 1 ∨ 255 < l then { s with seq := .idle, refused := State.insertNew .badLength s.refused }
      else { s with
        seq := .idle
        io := { s.io with result := some (.program [0x04, byte a, 0x02, 0x06, byte l, 0x03, 0x00]) } })

/-- 41_encoder.md R94, whole.
The spec marks this as its own decision: 92_eei_decisions.md D19. -/
def Obligations.DecResultSeparatesTransportFailures : Prop :=
  ∀ (st : Int) (d : List Byte) (s : State), opcode (.decResult st d) = 0x05 ∧
    exec (.decResult st d) s = .next { s with
      seq := .idle
      io := { s.io with result := some (.transport (if st < 0 then .terr st else .ok st d)) } }

/-! ## Channels -/

/-- 42_channel.md R100, whole, with R107: CH_OPEN in each of its cases, and the two answers to its claim.
The spec marks this as its own decision: 92_eei_decisions.md D11, D12, D33. -/
def Obligations.ChOpenClaimsTheBusOnce : Prop :=
  ∀ (ch : Channel) (s : State), opcode (.chOpen ch) = 0x10 ∧
    (s.owner ch = .configured → exec (.chOpen ch) s = .next { s with
      seq := .idle, faults := State.insertNew (.channelOwned ch 0x10) s.faults }) ∧
    (s.owner ch ≠ .configured → s.chan ch = .opened → exec (.chOpen ch) s = .next { s with
      seq := .idle, io := { s.io with result := some .ok } }) ∧
    (s.owner ch ≠ .configured → s.chan ch = .closed → s.chan (otherChannel ch) = .opened →
      exec (.chOpen ch) s = .next { s with
        seq := .idle, faults := State.insertNew (.concurrentChannel ch) s.faults }) ∧
    (s.quiet → s.owner ch ≠ .configured → s.bothClosed → ∀ ok rest, s.io.claims = ok :: rest →
      let trace := s.io.trace ++ [.claim s.cfg.busSda s.cfg.busScl s.cfg.busBitrate]
      let asked : State := { s with seq := .exec (.chOpen ch) 0, claim := .busy, io := { s.io with trace := trace } }
      exec (.chOpen ch) s = .next asked ∧
      (ok = true → runsTo 2 asked
        ({ s with io := { s.io with claims := rest, trace := trace, result := some .ok } }.setChan ch .opened)) ∧
      (ok = false → runsTo 2 asked
        { s with io := { s.io with claims := rest, trace := trace, result := some (.busUnavailable ch .openBus) } }))

/-- 42_channel.md R101: on an open channel that no driver owns, CH_READ sends the RC program and returns the decoded answer, its data
unchanged, and changes nothing else. -/
def Obligations.ChReadReturnsTheAnswerUnchanged : Prop :=
  ∀ (ch : Channel) (a : Nat) (r : Byte) (l : Nat) (s : State) (st : Int) (d : List Byte) (rest : List (Int × List Byte)),
    s.quiet → a < 128 → 1 ≤ l → l ≤ 254 → s.owner ch ≠ .configured → s.chan ch = .opened →
    s.io.answers = (st, d) :: rest →
    let prog : List Byte := [0x04, byte a, 0x02, 0x07, 0x01, r, 0x02, 0x06, byte (l + 1), 0x03, 0x00]
    let trace := s.io.trace ++ [.transact s.cfg.busId prog]
    let sent : State := { s with
      seq := .exec (.chRead ch a r l) 0, port := .busy prog, io := { s.io with trace := trace } }
    exec (.chRead ch a r l) s = .next sent ∧
    runsTo 2 sent { s with io := { s.io with
      answers := rest, trace := trace, result := some (.transport (if st < 0 then .terr st else .ok st d)) } }

/-- 42_channel.md R102: CH_WRITE sends the W program and returns the decoded answer, and changes nothing else. -/
def Obligations.ChWriteSendsThePayload : Prop :=
  ∀ (ch : Channel) (a : Nat) (r : Byte) (p : List Byte) (s : State) (st : Int) (d : List Byte)
    (rest : List (Int × List Byte)),
    s.quiet → a < 128 → 1 ≤ p.length → p.length ≤ 254 → s.owner ch ≠ .configured → s.chan ch = .opened →
    s.io.answers = (st, d) :: rest →
    let prog : List Byte := [0x04, byte a, 0x02, 0x07] ++ (if s.cfg.escapeWriteLength then [0x01] else []) ++
      [byte (p.length + 1), r] ++ p ++ [0x03, 0x00]
    let trace := s.io.trace ++ [.transact s.cfg.busId prog]
    let sent : State := { s with
      seq := .exec (.chWrite ch a r p) 0, port := .busy prog, io := { s.io with trace := trace } }
    exec (.chWrite ch a r p) s = .next sent ∧
    runsTo 2 sent { s with io := { s.io with
      answers := rest, trace := trace, result := some (.transport (if st < 0 then .terr st else .ok st d)) } }

/-- 42_channel.md R103: CH_WRITE1 is CH_WRITE with the one-element payload, its result "identical in every respect": both end alike, and
where both send, they differ in the operation of the sequencer position alone, which is the one taken from the command port
(10_state.md R28), and do the same with the answer. On an open channel that no driver owns it sends that program and returns the
decoded answer.
That a fault carries CH_WRITE's opcode 0x12 all the same is the model's reading, DEDUCED (notes/assumptions/10.md), and the number of
steps its choice (notes/assumptions/7.md). -/
def Obligations.ChWrite1IsChWriteOfOneByte : Prop :=
  ∀ (ch : Channel) (a : Nat) (r b : Byte) (s : State), opcode (.chWrite1 ch a r b) = 0x13 ∧
    (∃ t, exec (.chWrite1 ch a r b) s = .next t ∧
      (t.seq = .idle ∨ t.seq = .exec (.chWrite1 ch a r b) 0) ∧
      exec (.chWrite ch a r [b]) s = .next { t with
        seq := match t.seq with
          | .idle => .idle
          | .exec _ k => .exec (.chWrite ch a r [b]) k }) ∧
    (∀ (k : Nat) (ans : Answer) (u : State),
      answer (.chWrite1 ch a r b) k ans u = answer (.chWrite ch a r [b]) k ans u) ∧
    (s.quiet → a < 128 → s.owner ch ≠ .configured → s.chan ch = .opened →
      ∀ (st : Int) (d : List Byte) (rest : List (Int × List Byte)), s.io.answers = (st, d) :: rest →
      let prog : List Byte := [0x04, byte a, 0x02, 0x07] ++ (if s.cfg.escapeWriteLength then [0x01] else []) ++
        [0x02, r, b, 0x03, 0x00]
      let trace := s.io.trace ++ [.transact s.cfg.busId prog]
      let sent : State := { s with
        seq := .exec (.chWrite1 ch a r b) 0, port := .busy prog, io := { s.io with trace := trace } }
      exec (.chWrite1 ch a r b) s = .next sent ∧
      runsTo 2 sent { s with io := { s.io with
        answers := rest, trace := trace, result := some (.transport (if st < 0 then .terr st else .ok st d)) } })

/-- 42_channel.md R104, whole, with R107: CH_CLOSE releases an open channel and faults otherwise.
The spec marks this as its own decision: 92_eei_decisions.md D11, D13, D33. -/
def Obligations.ChCloseReleasesOrFaults : Prop :=
  ∀ (ch : Channel) (s : State), opcode (.chClose ch) = 0x14 ∧
    (s.owner ch = .configured → exec (.chClose ch) s = .next { s with
      seq := .idle, faults := State.insertNew (.channelOwned ch 0x14) s.faults }) ∧
    (s.owner ch ≠ .configured → s.chan ch = .opened → exec (.chClose ch) s = .next
      ({ s with
        seq := .idle
        io := { s.io with trace := s.io.trace ++ [Exchange.release], result := some .ok } }.setChan ch .closed)) ∧
    (s.owner ch ≠ .configured → s.chan ch = .closed → exec (.chClose ch) s = .next { s with
      seq := .idle, faults := State.insertNew (.doubleClose ch) s.faults })

/-- 42_channel.md R105: PW_SET_POINTER sends the SP program and returns the status alone.
The spec marks this as its own decision: 92_eei_decisions.md D34. -/
def Obligations.SetPointerReturnsTheStatusAlone : Prop :=
  ∀ (a : Nat) (r : Byte) (s : State) (st : Int) (d : List Byte) (rest : List (Int × List Byte)),
    s.quiet → a < 128 → s.ht.st ≠ .configured → s.chH = .opened → s.io.answers = (st, d) :: rest →
    let prog : List Byte := [0x04, byte a, 0x02, 0x07, 0x01, r, 0x03, 0x00]
    let trace := s.io.trace ++ [.transact s.cfg.busId prog]
    let sent : State := { s with
      seq := .exec (.pwSetPointer a r) 0, port := .busy prog, io := { s.io with trace := trace } }
    exec (.pwSetPointer a r) s = .next sent ∧
    runsTo 2 sent { s with io := { s.io with answers := rest, trace := trace, result := some (.status st) } }

/-- 42_channel.md R106: PW_READ_AFTER_POINTER sends the SR program, asking for exactly L bytes, and returns the decoded answer. -/
def Obligations.ReadAfterPointerAsksForExactlyL : Prop :=
  ∀ (a l : Nat) (s : State) (st : Int) (d : List Byte) (rest : List (Int × List Byte)),
    s.quiet → a < 128 → 1 ≤ l → l ≤ 255 → s.ht.st ≠ .configured → s.chH = .opened → s.io.answers = (st, d) :: rest →
    let prog : List Byte := [0x04, byte a, 0x02, 0x06, byte l, 0x03, 0x00]
    let trace := s.io.trace ++ [.transact s.cfg.busId prog]
    let sent : State := { s with
      seq := .exec (.pwReadAfterPointer a l) 0, port := .busy prog, io := { s.io with trace := trace } }
    exec (.pwReadAfterPointer a l) s = .next sent ∧
    runsTo 2 sent { s with io := { s.io with
      answers := rest, trace := trace, result := some (.transport (if st < 0 then .terr st else .ok st d)) } }

/-- 60_exceptions.md R178 items 2 to 4 with R107: for a channel transaction, the operand refusals come first (address before length),
then the ownership fault, then the Closed channel; each ends the operation with that one record.
The spec marks this as its own decision: 92_eei_decisions.md D24, D33. -/
def Obligations.ChannelChecksComeInPriorityOrder : Prop :=
  ∀ (s : State) (ch : Channel) (a l : Nat) (r b : Byte) (p : List Byte),
    let refused (f : Refusal) : State := { s with seq := .idle, refused := State.insertNew f s.refused }
    let faulted (f : Fault) : State := { s with seq := .idle, faults := State.insertNew f s.faults }
    let ended (ch : Channel) (code : Byte) (lengthOk : Prop) (t : State) : Prop :=
      (128 ≤ a → t = refused .badAddress) ∧
      (a < 128 → ¬ lengthOk → t = refused .badLength) ∧
      (a < 128 → lengthOk → s.owner ch = .configured → t = faulted (.channelOwned ch code)) ∧
      (a < 128 → lengthOk → s.owner ch ≠ .configured → s.chan ch = .closed → t = faulted (.channelNotOpen ch code))
    (∃ t, exec (.chRead ch a r l) s = .next t ∧ ended ch 0x11 (1 ≤ l ∧ l ≤ 254) t) ∧
    (∃ t, exec (.chWrite ch a r p) s = .next t ∧ ended ch 0x12 (1 ≤ p.length ∧ p.length ≤ 254) t) ∧
    (∃ t, exec (.chWrite1 ch a r b) s = .next t ∧ ended ch 0x12 True t) ∧
    (∃ t, exec (.pwSetPointer a r) s = .next t ∧ ended .H 0x15 True t) ∧
    (∃ t, exec (.pwReadAfterPointer a l) s = .next t ∧ ended .H 0x16 (1 ≤ l ∧ l ≤ 255) t)

/-! ## The pressure driver -/

/-- 43_pressure.md R110, whole: the domain checks in order, the value, and §8's property of it.
The spec marks this as its own decision: 92_eei_decisions.md D26. -/
def Obligations.TwosReadsTheSignBit : Prop :=
  ∀ (w : Nat) (v : Int) (s : State), opcode (.twos w v) = 0x40 ∧
    (w < 1 → exec (.twos w v) s = .next { s with seq := .idle, refused := State.insertNew .badWidth s.refused }) ∧
    (1 ≤ w → (v < 0 ∨ 2 ^ w ≤ v) →
      exec (.twos w v) s = .next { s with seq := .idle, refused := State.insertNew .badOperand s.refused }) ∧
    (1 ≤ w → 0 ≤ v → v < 2 ^ w → ∃ z : Int,
      exec (.twos w v) s = .next { s with seq := .idle, io := { s.io with result := some (.integer z) } } ∧
      z = (if v.toNat.testBit (w - 1) then v - 2 ^ w else v) ∧ -(2 ^ (w - 1)) ≤ z ∧ z < 2 ^ (w - 1))

/-- 43_pressure.md R111: a PT construction, from a Closed channel with the claim granted or on a channel already open, makes its three
writes in order whatever their answers, and leaves the driver Configured in the mode.
The exact numbers of steps are the model's choice (notes/assumptions/7.md), and so is the index 1 of the first write (notes/assumptions/18.md).
The spec marks this as its own decision: 92_eei_decisions.md D15. -/
def Obligations.PtConstructConfiguresInThreeWrites : Prop :=
  ∀ (m : Mode) (s : State) (a₁ a₂ a₃ : Int × List Byte) (rest : List (Int × List Byte)),
    s.quiet → s.pt.st ≠ .configured → s.io.answers = a₁ :: a₂ :: a₃ :: rest →
    let i : Instr := .ptConstruct m
    let write (r b : Byte) : List Byte := [0x04, 0x60, 0x02, 0x07] ++ (if s.cfg.escapeWriteLength then [0x01] else []) ++
      [0x02, r, b, 0x03, 0x00]
    let os := match m with | .altitude => s.cfg.ptCtrlAltOs | .barometric => s.cfg.ptCtrlBarOs
    let run := match m with | .altitude => s.cfg.ptCtrlAltRun | .barometric => s.cfg.ptCtrlBarRun
    let mode : PtMode := match m with | .altitude => .altitude | .barometric => .barometric
    let first := write s.cfg.ptRegDataflag s.cfg.ptDataflagEnable
    let sends : List Exchange := [.transact s.cfg.busId first, .transact s.cfg.busId (write s.cfg.ptRegCtrl os),
      .transact s.cfg.busId (write s.cfg.ptRegCtrl run)]
    let claimed := s.io.trace ++ [.claim s.cfg.busSda s.cfg.busScl s.cfg.busBitrate]
    (s.bothClosed → ∀ claims, s.io.claims = true :: claims →
      let asked : State := { s with seq := .exec i 0, claim := .busy, io := { s.io with trace := claimed } }
      exec i s = .next asked ∧
      runsTo 11 asked { s with
        chP := .opened, pt := ⟨.configured, mode, false⟩
        io := { s.io with claims := claims, answers := rest, trace := claimed ++ sends, result := some .ok } }) ∧
    (s.chP = .opened →
      let sent : State := { s with
        seq := .exec i 1, port := .busy first, pt := { s.pt with ready := false }
        io := { s.io with trace := s.io.trace ++ [.transact s.cfg.busId first] } }
      exec i s = .next sent ∧
      runsTo 8 sent { s with
        pt := ⟨.configured, mode, false⟩
        io := { s.io with answers := rest, trace := s.io.trace ++ sends, result := some .ok } })

/-- 43_pressure.md R111 and 44_humidity.md R130: how a construction ends without constructing: the guard's fault, the other channel's
fault, and a failed claim, re-raised with the driver's state unchanged.
The spec marks this as its own decision: 92_eei_decisions.md D13, D15. -/
def Obligations.ConstructionsThatFailChangeNoDriver : Prop :=
  ∀ (s : State) (m : Mode),
    (s.pt.st = .configured → exec (.ptConstruct m) s = .next { s with
      seq := .idle, faults := State.insertNew (.driverState .PT 0x20 .configured) s.faults }) ∧
    (s.ht.st = .configured → exec .htConstruct s = .next { s with
      seq := .idle, faults := State.insertNew (.driverState .HT 0x30 .configured) s.faults }) ∧
    (s.pt.st ≠ .configured → s.chP = .closed → s.chH = .opened → exec (.ptConstruct m) s = .next { s with
      seq := .idle, faults := State.insertNew (.concurrentChannel .P) s.faults }) ∧
    (s.ht.st ≠ .configured → s.chH = .closed → s.chP = .opened → exec .htConstruct s = .next { s with
      seq := .idle, faults := State.insertNew (.concurrentChannel .H) s.faults }) ∧
    (s.quiet → s.bothClosed → ∀ claims, s.io.claims = false :: claims →
      let trace := s.io.trace ++ [.claim s.cfg.busSda s.cfg.busScl s.cfg.busBitrate]
      (s.pt.st ≠ .configured → ∃ t, exec (.ptConstruct m) s = .next t ∧ runsTo 2 t { s with
        io := { s.io with claims := claims, trace := trace, result := some (.busUnavailable .P .openBus) } }) ∧
      (s.ht.st ≠ .configured → ∃ t, exec .htConstruct s = .next t ∧ runsTo 2 t { s with
        io := { s.io with claims := claims, trace := trace, result := some (.busUnavailable .H .openBus) } }))

/-- 43_pressure.md R112, R113, whole: a mode selection needs a Configured driver; it issues both control writes every time, in order,
whatever their answers, then records the mode and clears the latch.
The exact numbers of steps are the model's choice (notes/assumptions/7.md).
The spec marks this as its own decision: 92_eei_decisions.md D15, D16. -/
def Obligations.ModeSelectionIssuesBothWrites : Prop :=
  ∀ (i : Instr) (code os run : Byte) (mode : PtMode) (s : State),
    ((i = .ptSelectAltitude ∧ code = 0x21 ∧ os = s.cfg.ptCtrlAltOs ∧ run = s.cfg.ptCtrlAltRun ∧ mode = .altitude) ∨
      (i = .ptSelectBarometric ∧ code = 0x22 ∧ os = s.cfg.ptCtrlBarOs ∧ run = s.cfg.ptCtrlBarRun ∧ mode = .barometric)) →
    opcode i = code ∧
    (s.pt.st ≠ .configured → exec i s = .next { s with
      seq := .idle, faults := State.insertNew (.driverState .PT code s.pt.st) s.faults }) ∧
    (s.quiet → s.pt.st = .configured → s.chP = .opened → ∀ a₁ a₂ rest, s.io.answers = a₁ :: a₂ :: rest →
      let write (b : Byte) : List Byte := [0x04, 0x60, 0x02, 0x07] ++ (if s.cfg.escapeWriteLength then [0x01] else []) ++
        [0x02, s.cfg.ptRegCtrl, b, 0x03, 0x00]
      let sent : State := { s with
        seq := .exec i 0, port := .busy (write os)
        io := { s.io with trace := s.io.trace ++ [.transact s.cfg.busId (write os)] } }
      exec i s = .next sent ∧
      runsTo 5 sent { s with
        pt := { s.pt with mode := mode, ready := false }
        io := { s.io with
          answers := rest, result := some .ok
          trace := s.io.trace ++ [.transact s.cfg.busId (write os), .transact s.cfg.busId (write run)] } })

/-- 43_pressure.md R114, whole: the readiness test needs a Configured driver; it reads the status register and is true exactly when the
status is not negative, the data is not empty and bit 3 of its first byte is set; the latch takes the answer.
The spec marks this as its own decision: 92_eei_decisions.md D17. -/
def Obligations.PtReadinessIsStatusBitThree : Prop :=
  ∀ s : State, opcode .ptIsReady = 0x23 ∧
    (s.pt.st ≠ .configured → exec .ptIsReady s = .next { s with
      seq := .idle, faults := State.insertNew (.driverState .PT 0x23 s.pt.st) s.faults }) ∧
    (s.quiet → s.pt.st = .configured → s.chP = .opened → ∀ st d rest, s.io.answers = (st, d) :: rest →
      let prog : List Byte := [0x04, 0x60, 0x02, 0x07, 0x01, s.cfg.ptRegStatus, 0x02, 0x06, 0x02, 0x03, 0x00]
      let trace := s.io.trace ++ [.transact s.cfg.busId prog]
      let sent : State := { s with seq := .exec .ptIsReady 0, port := .busy prog, io := { s.io with trace := trace } }
      let rdy : Bool := decide (0 ≤ st) && (match d with | [] => false | b :: _ => b.toNat.testBit 3)
      exec .ptIsReady s = .next sent ∧
      runsTo 2 sent { s with
        pt := { s.pt with ready := rdy }
        io := { s.io with answers := rest, trace := trace, result := some (.ready rdy) } })

/-- 43_pressure.md R115, whole: a fetch needs a Configured driver; with the latch clear it answers NotReady with no exchange; with the
latch set it clears it, reads the data block and returns the data unchanged, or the transport's error.
The spec marks this as its own decision: 92_eei_decisions.md D16. -/
def Obligations.PtFetchNeedsAndClearsTheLatch : Prop :=
  ∀ s : State, opcode .ptFetchRaw = 0x24 ∧
    (s.pt.st ≠ .configured → exec .ptFetchRaw s = .next { s with
      seq := .idle, faults := State.insertNew (.driverState .PT 0x24 s.pt.st) s.faults }) ∧
    (s.pt.st = .configured → s.pt.ready = false → exec .ptFetchRaw s = .next { s with
      seq := .idle, io := { s.io with result := some (.fetch .notReady) } }) ∧
    (s.quiet → s.pt.st = .configured → s.pt.ready = true → s.chP = .opened →
      ∀ st d rest, s.io.answers = (st, d) :: rest →
      let prog : List Byte := [0x04, 0x60, 0x02, 0x07, 0x01, s.cfg.ptRegData, 0x02, 0x06, 0x06, 0x03, 0x00]
      let trace := s.io.trace ++ [.transact s.cfg.busId prog]
      let sent : State := { s with
        seq := .exec .ptFetchRaw 0, port := .busy prog, pt := { s.pt with ready := false }
        io := { s.io with trace := trace } }
      exec .ptFetchRaw s = .next sent ∧
      runsTo 2 sent { s with
        pt := { s.pt with ready := false }
        io := { s.io with
          answers := rest, trace := trace
          result := some (.fetch (if st < 0 then .transportError st else .ready d)) } })

/-- 43_pressure.md R116 to R119 with 20_memory.md R44: the three PT decoders on six bytes, big-endian, altitude signed over 256, pressure
unsigned over 64, temperature unsigned over 256; any other length is Unavailable; the state is not read and only the result
changes.
The spec marks this as its own decision: 92_eei_decisions.md D20. -/
def Obligations.PtDecodersFollowTheirFormulas : Prop :=
  ∀ s : State,
    let returns (i : Instr) (v : Value) : Prop :=
      exec i s = .next { s with seq := .idle, io := { s.io with result := some (.value v) } }
    (∀ b₀ b₁ b₂ b₃ b₄ b₅ : Byte,
      opcode (.ptDecodeAltitude [b₀, b₁, b₂, b₃, b₄, b₅]) = 0x25 ∧
      opcode (.ptDecodePressure [b₀, b₁, b₂, b₃, b₄, b₅]) = 0x26 ∧
      opcode (.ptDecodeTemperature [b₀, b₁, b₂, b₃, b₄, b₅]) = 0x27 ∧
      returns (.ptDecodeAltitude [b₀, b₁, b₂, b₃, b₄, b₅]) (.avail (((b₀ ++ b₁ ++ b₂).toInt : Rat) / 256)) ∧
      returns (.ptDecodePressure [b₀, b₁, b₂, b₃, b₄, b₅]) (.avail (((b₀ ++ b₁ ++ b₂).toNat : Rat) / 64)) ∧
      returns (.ptDecodeTemperature [b₀, b₁, b₂, b₃, b₄, b₅]) (.avail (((b₃ ++ b₄).toNat : Rat) / 256))) ∧
    (∀ raw, raw.length ≠ 6 →
      returns (.ptDecodeAltitude raw) .unavailable ∧ returns (.ptDecodePressure raw) .unavailable ∧
      returns (.ptDecodeTemperature raw) .unavailable)

/-- 43_pressure.md R117 (§8's round trip): a multiple of 1/256 m in range, written as its 24-bit pattern, decodes to itself; and any
altitude in range, so written, decodes to within 1/256 m. -/
def Obligations.AltitudeRoundTrip : Prop :=
  ∀ x y z : Byte,
    (∀ n : Int, -(2 ^ 23) ≤ n → n < 2 ^ 23 →
      ptAltitude (bytesBE 3 (n % 2 ^ 24).toNat ++ [x, y, z]) = .avail ((n : Rat) / 256)) ∧
    (∀ q : Rat, -32768 ≤ q → q < 32768 → ∃ v : Rat,
      ptAltitude (bytesBE 3 ((q * 256).floor % 2 ^ 24).toNat ++ [x, y, z]) = .avail v ∧ |v - q| < 1 / 256)

/-- 43_pressure.md R120 and 44_humidity.md R139, whole: a close needs a Configured driver (whose channel is then Open, 10_state.md R25,
R26); it releases the bus and leaves channel and driver Closed. -/
def Obligations.DriverCloseReleasesTheBus : Prop :=
  ∀ s : State, opcode .ptClose = 0x28 ∧ opcode .htClose = 0x37 ∧
    (s.pt.st ≠ .configured → exec .ptClose s = .next { s with
      seq := .idle, faults := State.insertNew (.driverState .PT 0x28 s.pt.st) s.faults }) ∧
    (s.pt.st = .configured → s.chP = .opened → exec .ptClose s = .next { s with
      chP := .closed, pt := ⟨.closed, .none, false⟩, seq := .idle
      io := { s.io with trace := s.io.trace ++ [.release], result := some .ok } }) ∧
    (s.ht.st ≠ .configured → exec .htClose s = .next { s with
      seq := .idle, faults := State.insertNew (.driverState .HT 0x37 s.ht.st) s.faults }) ∧
    (s.ht.st = .configured → s.chH = .opened → exec .htClose s = .next { s with
      chH := .closed, ht := ⟨.closed, false⟩, seq := .idle
      io := { s.io with trace := s.io.trace ++ [.release], result := some .ok } })

/-! ## The humidity driver -/

/-- 44_humidity.md R130: an HT construction sends the setup word in its byte order and then the pointer set, whatever their answers, and
leaves the driver Configured.
The exact numbers of steps are the model's choice (notes/assumptions/7.md), and so is the index 1 of the first write (notes/assumptions/18.md).
The spec marks this as its own decision: 92_eei_decisions.md D15, D27. -/
def Obligations.HtConstructSetsUpThenPoints : Prop :=
  ∀ (s : State) (a₁ a₂ : Int × List Byte) (rest : List (Int × List Byte)),
    s.quiet → s.ht.st ≠ .configured → s.io.answers = a₁ :: a₂ :: rest →
    let first : List Byte := [0x04, 0x40, 0x02, 0x07] ++ (if s.cfg.escapeWriteLength then [0x01] else []) ++
      [0x03, s.cfg.htRegControl, s.cfg.htSetup0, s.cfg.htSetup1, 0x03, 0x00]
    let second : List Byte := [0x04, 0x40, 0x02, 0x07, 0x01, s.cfg.htRegRead, 0x03, 0x00]
    let sends : List Exchange := [.transact s.cfg.busId first, .transact s.cfg.busId second]
    let claimed := s.io.trace ++ [.claim s.cfg.busSda s.cfg.busScl s.cfg.busBitrate]
    (s.bothClosed → ∀ claims, s.io.claims = true :: claims →
      let asked : State := { s with seq := .exec .htConstruct 0, claim := .busy, io := { s.io with trace := claimed } }
      exec .htConstruct s = .next asked ∧
      runsTo 8 asked { s with
        chH := .opened, ht := ⟨.configured, false⟩
        io := { s.io with claims := claims, answers := rest, trace := claimed ++ sends, result := some .ok } }) ∧
    (s.chH = .opened →
      let sent : State := { s with
        seq := .exec .htConstruct 1, port := .busy first, ht := { s.ht with ready := false }
        io := { s.io with trace := s.io.trace ++ [.transact s.cfg.busId first] } }
      exec .htConstruct s = .next sent ∧
      runsTo 5 sent { s with
        ht := ⟨.configured, false⟩
        io := { s.io with answers := rest, trace := s.io.trace ++ sends, result := some .ok } })

/-- 44_humidity.md R132, whole: the readiness test needs a Configured driver; it is a split read of HT_READY_LEN bytes and is true exactly
when the status is not negative, whatever the data.
The spec marks this as its own decision: 92_eei_decisions.md D18. -/
def Obligations.HtReadinessIsTheStatusSign : Prop :=
  ∀ s : State, opcode .htIsReady = 0x31 ∧
    (s.ht.st ≠ .configured → exec .htIsReady s = .next { s with
      seq := .idle, faults := State.insertNew (.driverState .HT 0x31 s.ht.st) s.faults }) ∧
    (s.quiet → s.cfg.wf = true → s.ht.st = .configured → s.chH = .opened → ∀ st d rest, s.io.answers = (st, d) :: rest →
      let prog : List Byte := [0x04, 0x40, 0x02, 0x06, byte s.cfg.htReadyLen, 0x03, 0x00]
      let trace := s.io.trace ++ [.transact s.cfg.busId prog]
      let sent : State := { s with seq := .exec .htIsReady 0, port := .busy prog, io := { s.io with trace := trace } }
      exec .htIsReady s = .next sent ∧
      runsTo 2 sent { s with
        ht := { s.ht with ready := decide (0 ≤ st) }
        io := { s.io with answers := rest, trace := trace, result := some (.ready (decide (0 ≤ st))) } })

/-- 44_humidity.md R133, whole: as the PT fetch, with a four-byte split read and no new pointer set.
The spec marks this as its own decision: 92_eei_decisions.md D16, D38. -/
def Obligations.HtFetchNeedsAndClearsTheLatch : Prop :=
  ∀ s : State, opcode .htFetchRaw = 0x32 ∧
    (s.ht.st ≠ .configured → exec .htFetchRaw s = .next { s with
      seq := .idle, faults := State.insertNew (.driverState .HT 0x32 s.ht.st) s.faults }) ∧
    (s.ht.st = .configured → s.ht.ready = false → exec .htFetchRaw s = .next { s with
      seq := .idle, io := { s.io with result := some (.fetch .notReady) } }) ∧
    (s.quiet → s.ht.st = .configured → s.ht.ready = true → s.chH = .opened →
      ∀ st d rest, s.io.answers = (st, d) :: rest →
      let prog : List Byte := [0x04, 0x40, 0x02, 0x06, 0x04, 0x03, 0x00]
      let trace := s.io.trace ++ [.transact s.cfg.busId prog]
      let sent : State := { s with
        seq := .exec .htFetchRaw 0, port := .busy prog, ht := { s.ht with ready := false }
        io := { s.io with trace := trace } }
      exec .htFetchRaw s = .next sent ∧
      runsTo 2 sent { s with
        ht := { s.ht with ready := false }
        io := { s.io with
          answers := rest, trace := trace
          result := some (.fetch (if st < 0 then .transportError st else .ready d)) } })

/-- 44_humidity.md R131, R134, R135: each conversion returns k/10 for the integer k nearest to ten times the exact value, the even one of
two equally near, within the stated range, and changes nothing but the result.
The spec marks this as its own decision: 92_eei_decisions.md D21. -/
def Obligations.HtConversionsRoundHalfEvenToTenths : Prop :=
  ∀ (hi lo : Byte) (s : State),
    let nearest (q : Rat) (k : Int) : Prop := |10 * q - k| ≤ 1 / 2 ∧ (|10 * q - k| = 1 / 2 → k % 2 = 0)
    let x : Rat := ((hi ++ lo).toNat : Rat)
    opcode (.htConvTemperature hi lo) = 0x33 ∧ opcode (.htConvHumidity hi lo) = 0x34 ∧
    (∃ k : Int, nearest (x / 65536 * 165 - 40) k ∧ -400 ≤ k ∧ k ≤ 1250 ∧
      exec (.htConvTemperature hi lo) s = .next { s with
        seq := .idle, io := { s.io with result := some (.number ((k : Rat) / 10)) } }) ∧
    (∃ k : Int, nearest (x / 65536 * 100) k ∧ 0 ≤ k ∧ k ≤ 1000 ∧
      exec (.htConvHumidity hi lo) s = .next { s with
        seq := .idle, io := { s.io with result := some (.number ((k : Rat) / 10)) } })

/-- 44_humidity.md R136 to R138: the raw decoders convert bytes 0 and 1, and bytes 2 and 3, of a four-byte reading as the conversions do;
any other length is Unavailable.
The spec marks this as its own decision: 92_eei_decisions.md D20. -/
def Obligations.HtRawDecodersConvertTheirHalves : Prop :=
  ∀ s : State,
    let returns (i : Instr) (r : Result) : Prop :=
      exec i s = .next { s with seq := .idle, io := { s.io with result := some r } }
    (∀ raw, opcode (.htDecodeTemperature raw) = 0x35 ∧ opcode (.htDecodeHumidity raw) = 0x36) ∧
    (∀ b₀ b₁ b₂ b₃ : Byte, ∃ t h : Rat,
      returns (.htConvTemperature b₀ b₁) (.number t) ∧
      returns (.htDecodeTemperature [b₀, b₁, b₂, b₃]) (.value (.avail t)) ∧
      returns (.htConvHumidity b₂ b₃) (.number h) ∧
      returns (.htDecodeHumidity [b₀, b₁, b₂, b₃]) (.value (.avail h))) ∧
    (∀ raw, raw.length ≠ 4 →
      returns (.htDecodeTemperature raw) (.value .unavailable) ∧ returns (.htDecodeHumidity raw) (.value .unavailable))

/-! ## Measurements -/

/-- 45_measure.md R150 to R153: a PT measurement whose claim is granted, whose first readiness test is true and whose data decodes makes
the seven exchanges in order and returns the decoded value with channel and driver Closed. Whatever its sensor answers afterwards, its
construction (43_pressure.md R111), from a granted claim or on a channel already open, leads to the loop's head with no failure
counted; and a ready and well-decoding attempt at the loop's head, after the construction or after a Sleep, ends in the decoded value
with no exchange but the two reads and the Release.
The exact numbers of steps are the model's choice (notes/assumptions/7.md), and so are the index of the loop's head and of the first write
(notes/assumptions/18.md) and M.phase and M.fails after the end (notes/assumptions/6.md); that M.fails is not written before the
construction has returned is its reading (notes/assumptions/11.md).
The spec marks this as its own decision: 92_eei_decisions.md D22. -/
def Obligations.PtMeasurementsReturnTheDecodedValue : Prop :=
  ∀ (i : Instr) (m : Mode) (dec : List Byte → Value) (s : State) (rest : List (Int × List Byte)),
    ((i = .mPressure ∧ m = .barometric ∧ dec = ptPressure) ∨ (i = .mAltitude ∧ m = .altitude ∧ dec = ptAltitude) ∨
      (i = .mTemperaturePt ∧ m = .barometric ∧ dec = ptTemperature)) →
    let bus := s.cfg.busId
    let mode : PtMode := match m with | .altitude => .altitude | .barometric => .barometric
    let first := shapeW s.cfg.escapeWriteLength 0x60 s.cfg.ptRegDataflag [s.cfg.ptDataflagEnable]
    let writes : List Exchange := [.transact bus first,
      .transact bus (shapeW s.cfg.escapeWriteLength 0x60 s.cfg.ptRegCtrl [ctrlOs s.cfg m]),
      .transact bus (shapeW s.cfg.escapeWriteLength 0x60 s.cfg.ptRegCtrl [ctrlRun s.cfg m])]
    let attempt : List Exchange :=
      [.transact bus (shapeRC 0x60 s.cfg.ptRegStatus 1), .transact bus (shapeRC 0x60 s.cfg.ptRegData 5), .release]
    let claimed := s.io.trace ++ [.claim s.cfg.busSda s.cfg.busScl s.cfg.busBitrate]
    let asked : State := { s with
      seq := .exec i 0, claim := .busy, m := { s.m with phase := .construct }, io := { s.io with trace := claimed } }
    let sent : State := { s with
      seq := .exec i 1, port := .busy first, pt := { s.pt with ready := false }, m := { s.m with phase := .construct }
      io := { s.io with trace := s.io.trace ++ [.transact bus first] } }
    let head : State := { s with
      chP := .opened, pt := ⟨.configured, mode, false⟩, seq := .exec i (pollStep .PT), m := ⟨.construct, 0⟩ }
    (∀ (claims : List Bool) (a₁ a₂ a₃ : Int × List Byte),
      s.quiet → s.bothClosed → s.pt.st ≠ .configured → s.io.claims = true :: claims →
      s.io.answers = a₁ :: a₂ :: a₃ :: rest →
      exec i s = .next asked ∧
      runsTo 11 asked { head with io := { s.io with claims := claims, answers := rest, trace := claimed ++ writes } }) ∧
    (∀ a₁ a₂ a₃ : Int × List Byte,
      s.quiet → s.chP = .opened → s.pt.st ≠ .configured → s.io.answers = a₁ :: a₂ :: a₃ :: rest →
      exec i s = .next sent ∧
      runsTo 8 sent { head with io := { s.io with answers := rest, trace := s.io.trace ++ writes } }) ∧
    (∀ (st st' : Int) (b : Byte) (d raw : List Byte) (v : Rat),
      0 ≤ st → b.toNat.testBit 3 = true → 0 ≤ st' → dec raw = .avail v →
      (∀ (claims : List Bool) (a₁ a₂ a₃ : Int × List Byte),
        s.quiet → s.bothClosed → s.pt.st ≠ .configured → s.io.claims = true :: claims →
        s.io.answers = a₁ :: a₂ :: a₃ :: (st, b :: d) :: (st', raw) :: rest →
        exec i s = .next asked ∧
        runsTo 17 asked { s with
          pt := ⟨.closed, .none, false⟩, m := ⟨.close, 0⟩
          io := { s.io with
            claims := claims, answers := rest, result := some (.measure (.done v))
            trace := claimed ++ writes ++ attempt } }) ∧
      (s.Inv → s.seq = .exec i (pollStep .PT) → s.atRest → (s.m.phase = .construct ∨ s.m.phase = .sleep) →
        s.io.answers = (st, b :: d) :: (st', raw) :: rest →
        runsTo 6 s { s with
          chP := .closed, pt := ⟨.closed, .none, false⟩, seq := .idle, m := ⟨.close, s.m.fails⟩
          io := { s.io with
            answers := rest, result := some (.measure (.done v)), trace := s.io.trace ++ attempt } }))

/-- 45_measure.md R150, R154, R155: an HT measurement whose claim is granted, whose first readiness test is true and whose data decodes
makes the six exchanges in order and returns the decoded value with channel and driver Closed. Whatever its sensor answers afterwards,
its construction (44_humidity.md R130), from a granted claim or on a channel already open, leads to the loop's head with no failure
counted; and a ready and well-decoding attempt at the loop's head, after the construction or after a Sleep, ends in the decoded value
with no exchange but the two reads and the Release.
The exact numbers of steps are the model's choice (notes/assumptions/7.md), and so are the index of the loop's head and of the first write
(notes/assumptions/18.md) and M.phase and M.fails after the end (notes/assumptions/6.md); that M.fails is not written before the
construction has returned is its reading (notes/assumptions/11.md).
The spec marks this as its own decision: 92_eei_decisions.md D22. -/
def Obligations.HtMeasurementsReturnTheDecodedValue : Prop :=
  ∀ (i : Instr) (dec : List Byte → Value) (s : State) (rest : List (Int × List Byte)),
    ((i = .mHumidity ∧ dec = htRawHumidity) ∨ (i = .mTemperatureHt ∧ dec = htRawTemperature)) →
    let bus := s.cfg.busId
    let first := shapeW s.cfg.escapeWriteLength 0x40 s.cfg.htRegControl [s.cfg.htSetup0, s.cfg.htSetup1]
    let setup : List Exchange := [.transact bus first, .transact bus (shapeSP 0x40 s.cfg.htRegRead)]
    let attempt : List Exchange :=
      [.transact bus (shapeSR 0x40 s.cfg.htReadyLen), .transact bus (shapeSR 0x40 4), .release]
    let claimed := s.io.trace ++ [.claim s.cfg.busSda s.cfg.busScl s.cfg.busBitrate]
    let asked : State := { s with
      seq := .exec i 0, claim := .busy, m := { s.m with phase := .construct }, io := { s.io with trace := claimed } }
    let sent : State := { s with
      seq := .exec i 1, port := .busy first, ht := { s.ht with ready := false }, m := { s.m with phase := .construct }
      io := { s.io with trace := s.io.trace ++ [.transact bus first] } }
    let head : State := { s with
      chH := .opened, ht := ⟨.configured, false⟩, seq := .exec i (pollStep .HT), m := ⟨.construct, 0⟩ }
    (∀ (claims : List Bool) (a₁ a₂ : Int × List Byte),
      s.quiet → s.bothClosed → s.ht.st ≠ .configured → s.io.claims = true :: claims →
      s.io.answers = a₁ :: a₂ :: rest →
      exec i s = .next asked ∧
      runsTo 8 asked { head with io := { s.io with claims := claims, answers := rest, trace := claimed ++ setup } }) ∧
    (∀ a₁ a₂ : Int × List Byte,
      s.quiet → s.chH = .opened → s.ht.st ≠ .configured → s.io.answers = a₁ :: a₂ :: rest →
      exec i s = .next sent ∧
      runsTo 5 sent { head with io := { s.io with answers := rest, trace := s.io.trace ++ setup } }) ∧
    (∀ (st st' : Int) (d raw : List Byte) (v : Rat), 0 ≤ st → 0 ≤ st' → dec raw = .avail v →
      (∀ (claims : List Bool) (a₁ a₂ : Int × List Byte),
        s.quiet → s.bothClosed → s.ht.st ≠ .configured → s.cfg.wf = true → s.io.claims = true :: claims →
        s.io.answers = a₁ :: a₂ :: (st, d) :: (st', raw) :: rest →
        exec i s = .next asked ∧
        runsTo 14 asked { s with
          ht := ⟨.closed, false⟩, m := ⟨.close, 0⟩
          io := { s.io with
            claims := claims, answers := rest, result := some (.measure (.done v))
            trace := claimed ++ setup ++ attempt } }) ∧
      (s.Inv → s.seq = .exec i (pollStep .HT) → s.atRest → (s.m.phase = .construct ∨ s.m.phase = .sleep) →
        s.io.answers = (st, d) :: (st', raw) :: rest →
        runsTo 6 s { s with
          chH := .closed, ht := ⟨.closed, false⟩, seq := .idle, m := ⟨.close, s.m.fails⟩
          io := { s.io with
            answers := rest, result := some (.measure (.done v)), trace := s.io.trace ++ attempt } }))

/-- 45_measure.md R150, R157, R158: a measurement whose claim fails returns Error(BusUnavailable, sensor, "open") with no other exchange
and the channel and the driver as they were.
That M.phase and M.fails keep their values afterwards is the model's choice (notes/assumptions/6.md), that M.fails is not written before
the construction has returned its reading (notes/assumptions/11.md), and the number of steps its choice (notes/assumptions/7.md).
The spec marks this as its own decision: 92_eei_decisions.md D23. -/
def Obligations.FailedClaimEndsAMeasurementWithBusUnavailable : Prop :=
  ∀ (q : Quantity) (s : State) (claims : List Bool), s.quiet → s.bothClosed → ¬ driverConfigured q s →
    s.io.claims = false :: claims →
    ∃ t, exec q.op s = .next t ∧ runsTo 2 t { s with
      m := { s.m with phase := .construct }
      io := { s.io with
        claims := claims, trace := s.io.trace ++ [.claim s.cfg.busSda s.cfg.busScl s.cfg.busBitrate]
        result := some (.measure (.error .busUnavailable q.sensor .openBus)) } }

/-- 60_exceptions.md R177 ("a measurement that faults `ConcurrentChannel` has written `M.phase` = Construct and nothing else"), R176: a
measurement inherits the faults of its construction, and then nothing else of it happens. -/
def Obligations.MeasurementsInheritTheConstructionFaults : Prop :=
  ∀ (q : Quantity) (s : State),
    let own : Channel := match q.sensor with | .PT => .P | .HT => .H
    let code : Byte := match q.sensor with | .PT => 0x20 | .HT => 0x30
    let ended (f : Fault) : State := { s with
      seq := .idle, m := { s.m with phase := .construct }, faults := State.insertNew f s.faults }
    (driverConfigured q s → exec q.op s = .next (ended (.driverState q.sensor code .configured))) ∧
    (¬ driverConfigured q s → s.chan own = .closed → s.chan (otherChannel own) = .opened →
      exec q.op s = .next (ended (.concurrentChannel own)))

/-- 45_measure.md R150, 70_reset_and_hazards.md R205: at the loop's head, an attempt that fails in its readiness test, in its fetch or in
its decoding counts, and while the bound is not reached a Sleep follows and the loop's head is reached again, the driver still
Configured with its latch clear and no result given; the attempt's exchanges are the readiness read and, where it was ready, the fetch,
with no configuration write and no new pointer set (70_reset_and_hazards.md R202).
The exact numbers of steps are the model's choice (notes/assumptions/7.md), and so is the index of the loop's head, to which the attempt
comes back (notes/assumptions/18.md); that the Sleep leaves no exchange is its reading, DEDUCED (notes/assumptions/15.md).
The spec marks this as its own decision: 92_eei_decisions.md D22, D37. -/
def Obligations.FailedAttemptCountsAndSleeps : Prop :=
  ∀ (q : Quantity) (s : State) (st st' : Int) (d d' : List Byte) (rest : List (Int × List Byte)),
    s.Inv → s.seq = .exec q.op (pollStep q.sensor) → s.atRest → (s.m.phase = .construct ∨ s.m.phase = .sleep) →
    pollsExhausted s.cfg.maxPolls (s.m.fails + 1) = false →
    let ready : Bool := match q.sensor with
      | .PT => ptReadiness (decodeResult st d)
      | .HT => htReadiness (decodeResult st d)
    let slept (t : State) (sent : List Exchange) : Prop :=
      t.m = ⟨.sleep, s.m.fails + 1⟩ ∧ t.seq = s.seq ∧ t.atRest ∧ driverConfigured q t ∧ driverReady q t = false ∧
      t.chP = s.chP ∧ t.chH = s.chH ∧ t.faults = s.faults ∧ t.refused = s.refused ∧ t.io.result = s.io.result ∧
      t.io.answers = rest ∧ t.io.trace = s.io.trace ++ sent
    (s.io.answers = (st, d) :: rest → ready = false → ∃ t, runsTo 4 s t ∧ slept t [readinessExchange q s.cfg]) ∧
    (s.io.answers = (st, d) :: (st', d') :: rest → ready = true → (st' < 0 ∨ q.decode d' = .unavailable) →
      ∃ t, runsTo 7 s t ∧ slept t [readinessExchange q s.cfg, fetchExchange q s.cfg])

/-- 45_measure.md R156: the failed attempt that reaches the bound closes the driver and returns Error(Timeout, sensor, "poll") with no
further sleep; its exchanges are those of the attempt and the Release, and channel and driver are Closed (R157).
The exact numbers of steps are the model's choice (notes/assumptions/7.md), and so are the index of the loop's head
(notes/assumptions/18.md) and the phase after the end (notes/assumptions/6.md).
The spec marks this as its own decision: 92_eei_decisions.md D22, D23, D37. -/
def Obligations.LastFailedAttemptTimesOut : Prop :=
  ∀ (q : Quantity) (s : State) (st st' : Int) (d d' : List Byte) (rest : List (Int × List Byte)),
    s.Inv → s.seq = .exec q.op (pollStep q.sensor) → s.atRest → (s.m.phase = .construct ∨ s.m.phase = .sleep) →
    pollsExhausted s.cfg.maxPolls (s.m.fails + 1) = true →
    let ready : Bool := match q.sensor with
      | .PT => ptReadiness (decodeResult st d)
      | .HT => htReadiness (decodeResult st d)
    let timedOut (t : State) (sent : List Exchange) : Prop :=
      t.m = ⟨.close, s.m.fails + 1⟩ ∧ t.quiet ∧ t.bothClosed ∧ driverSt q t = .closed ∧ driverReady q t = false ∧
      t.faults = s.faults ∧ t.refused = s.refused ∧ t.io.result = some (.measure (.error .timeout q.sensor .poll)) ∧
      t.io.answers = rest ∧ t.io.trace = s.io.trace ++ sent ++ [.release]
    (s.io.answers = (st, d) :: rest → ready = false → ∃ t, runsTo 3 s t ∧ timedOut t [readinessExchange q s.cfg]) ∧
    (s.io.answers = (st, d) :: (st', d') :: rest → ready = true → (st' < 0 ∨ q.decode d' = .unavailable) →
      ∃ t, runsTo 6 s t ∧ timedOut t [readinessExchange q s.cfg, fetchExchange q s.cfg])

/-- 45_measure.md R156, 70_reset_and_hazards.md R201: with MAX_POLLS = k a measurement at its loop's head ends within the attempts it has
left, given the answers for them: at most seven steps each, and it ends with a result and both channels Closed.
The bound of seven steps for an attempt rests on the model's choice of a step (notes/assumptions/7.md), and
the index of the loop's head on its choice too (notes/assumptions/18.md).
The spec marks this as its own decision: 92_eei_decisions.md D22, D37. -/
def Obligations.BoundedPollingEndsTheMeasurement : Prop :=
  ∀ (q : Quantity) (k : Nat) (s : State),
    s.Inv → s.cfg.maxPolls = .bound k → s.seq = .exec q.op (pollStep q.sensor) → s.atRest →
    (s.m.phase = .construct ∨ s.m.phase = .sleep) → 2 * (k - s.m.fails) ≤ s.io.answers.length →
    ∃ n t r, n ≤ 7 * (k - s.m.fails) ∧ runsTo n s t ∧ t.quiet ∧ t.bothClosed ∧ t.io.result = some (.measure r)

/-- 45_measure.md R157: whenever a running measurement ends, it has given a measurement's result, both channels are Closed, its driver is
not Configured, and no fault or refusal was recorded. -/
def Obligations.MeasurementsCloseOnEveryExit : Prop :=
  ∀ (q : Quantity) (k : Nat) (s t : State), s.Inv → s.seq = .exec q.op k → step s = .next t → t.seq = .idle →
    t.bothClosed ∧ ¬ driverConfigured q t ∧ t.faults = s.faults ∧ t.refused = s.refused ∧
      ∃ r, t.io.result = some (.measure r)

/-! ## The whole machine -/

/-- 10_state.md R35, 70_reset_and_hazards.md R190: the reset event gives every field of the state record its value and makes no exchange;
the state right after reset is such a state.
The spec marks this as its own decision: 92_eei_decisions.md D9, D16. -/
def Obligations.ResetGivesEveryFieldItsValue : Prop :=
  ∀ s t : State, (t = resetEvent s ∨ t = State.reset) →
    t.chP = .closed ∧ t.chH = .closed ∧ t.pt.st = .unconfigured ∧ t.ht.st = .unconfigured ∧ t.pt.mode = .none ∧
    t.pt.ready = false ∧ t.ht.ready = false ∧ t.port = .idle ∧ t.claim = .idle ∧ t.seq = .idle ∧ t.faults = [] ∧
    t.refused = [] ∧ (t = resetEvent s → t.cfg = s.cfg ∧ t.io.trace = s.io.trace)

/-- The state right after reset meets the invariant. -/
def Obligations.ResetMeetsTheInvariant : Prop :=
  State.reset.Inv ∧ ∀ s : State, s.cfg.wf = true → (resetEvent s).Inv

/-- 10_state.md R23 to R28: every step from a state of the invariant that answers a next state answers one of the invariant. -/
def Obligations.StepKeepsTheInvariant : Prop := ∀ s t : State, s.Inv → step s = .next t → t.Inv

/-- 60_exceptions.md R177, R180: from a state of the invariant a step always answers a next state: errors are results, faults and refusals
are recorded, and nothing stops the machine. -/
def Obligations.StepNeverStopsUnderInvariant : Prop := ∀ s : State, s.Inv → ∃ t, step s = .next t

/-- 10_state.md R30: "Both are sticky: no step removes a member".
The spec marks this as its own decision: 92_eei_decisions.md D13. -/
def Obligations.FaultsAndRefusalsAreSticky : Prop :=
  ∀ s t : State, step s = .next t → s.faults ⊆ t.faults ∧ s.refused ⊆ t.refused

/-- 10_state.md R20: the parameters "are fixed for an instance and no operation writes them". -/
def Obligations.NoStepWritesAParameter : Prop := ∀ s t : State, step s = .next t → t.cfg = s.cfg

/-- 30_encoding.md R63, 40_tokens.md R88, 20_memory.md R48, R55: whatever the state, every program a step sends is well formed in one of
the four shapes, goes out whole on the instance's bus, and a step sends at most one exchange. -/
def Obligations.EveryProgramSentIsOneOfTheFourShapes : Prop :=
  ∀ s t : State, step s = .next t → ∃ new : List Exchange, t.io.trace = s.io.trace ++ new ∧ new.length ≤ 1 ∧
    (∀ b p, .transact b p ∈ new → b = s.cfg.busId ∧ t.port = .busy p ∧
      ∃ sh, programWellFormed s.cfg.escapeWriteLength sh p = true) ∧
    (∀ p, t.port = .busy p → s.port = .busy p ∨ .transact s.cfg.busId p ∈ new)

/-- 10_state.md R21: a channel goes from Closed to Open only on a claim answered ok, and from Open to Closed only with a Release. -/
def Obligations.ChannelsChangeOnlyByClaimAndRelease : Prop :=
  ∀ (s t : State) (ch : Channel), step s = .next t → t.chan ch ≠ s.chan ch →
    (s.chan ch = .closed ∧ t.chan ch = .opened ∧ s.claim = .answered true) ∨
    (s.chan ch = .opened ∧ t.chan ch = .closed ∧ t.io.trace = s.io.trace ++ [.release])

/-- 10_state.md R24: a ready latch becomes true only by consuming a Transport answer that its driver's readiness test reads as ready.
The spec marks this as its own decision: 92_eei_decisions.md D16. -/
def Obligations.LatchesAreSetOnlyByAReadyAnswer : Prop :=
  ∀ s t : State, step s = .next t →
    (s.pt.ready = false → t.pt.ready = true →
      ∃ st d, s.port = .answered st d ∧ ptReadiness (decodeResult st d) = true) ∧
    (s.ht.ready = false → t.ht.ready = true →
      ∃ st d, s.port = .answered st d ∧ htReadiness (decodeResult st d) = true)

/-- 10_state.md R27, 70_reset_and_hazards.md R200, R190: the Transport and the claim port move a Busy port to Answered with any answer and
change nothing else, and with no answer, or no frame from the Caller, the block waits.
The spec marks this as its own decision: 92_eei_decisions.md D6, D29. -/
def Obligations.PortsAnswerOrWait : Prop :=
  ∀ (s : State) (prog : List Byte),
    (s.port = .busy prog → ∀ st d rest, s.io.answers = (st, d) :: rest →
      step s = .next { s with port := .answered st d, io := { s.io with answers := rest } }) ∧
    (s.port = .busy prog → s.io.answers = [] → step s = .next s) ∧
    (s.port = .idle → s.claim = .busy → ∀ ok rest, s.io.claims = ok :: rest →
      step s = .next { s with claim := .answered ok, io := { s.io with claims := rest } }) ∧
    (s.port = .idle → s.claim = .busy → s.io.claims = [] → step s = .next s) ∧
    (s.quiet → s.io.frames = [] → step s = .next s)

/-- 41_encoder.md R94, R96, 43_pressure.md R110, R116, 44_humidity.md R134 to R136, 60_exceptions.md R176 ("have no guard"): an encoder's program depends only on its operands and
ESCAPE_WRITE_LENGTH, and a decoder's, a conversion's or TWOS's outcome on its operands alone: run in any two states that agree on
ESCAPE_WRITE_LENGTH, they return the same result or record the same refusal.
The spec marks this as its own decision: 92_eei_decisions.md D20 (the decoders), D19 (DEC_RESULT), D26 (TWOS). -/
def Obligations.PureOperationsDependOnTheirOperandsAlone : Prop :=
  ∀ (i : Instr), opcode i ∈ [0x01, 0x02, 0x03, 0x04, 0x05, 0x25, 0x26, 0x27, 0x33, 0x34, 0x35, 0x36, 0x40] →
    i.isToken = false → ∀ e : Bool,
    (∃ r, ∀ s : State, s.cfg.escapeWriteLength = e →
      exec i s = .next { s with seq := .idle, io := { s.io with result := some r } }) ∨
    (∃ f, ∀ s : State, s.cfg.escapeWriteLength = e →
      exec i s = .next { s with seq := .idle, refused := State.insertNew f s.refused })
end

