-- ==== Sys2Proof/Laws/Encoding.lean ====
section
/-! SUPPORT. The field readers of Decode.lean against the field writers: what each reads from the bytes an encoder writes, with any
bytes after them. -/

namespace Sys2Proof

/-! ## Bytes and numbers -/

@[simp] theorem byte_toNat {n : Nat} (h : n < 256) : (byte n).toNat = n := by
  simp [byte, BitVec.toNat_ofNat, Nat.mod_eq_of_lt h]

@[simp] theorem bytesBE_length (n v : Nat) : (bytesBE n v).length = n := by
  induction n with
  | zero => rfl
  | succ n ih => simp [bytesBE, ih]

/-- The low `n` bytes of a number, read back. -/
theorem natOfBE_bytesBE (n v : Nat) : natOfBE (bytesBE n v) = v % 256 ^ n := by
  induction n with
  | zero => simp [bytesBE, natOfBE, Nat.mod_one]
  | succ n ih =>
    simp only [bytesBE, natOfBE, bytesBE_length, ih, byte, BitVec.toNat_ofNat]
    rw [show (2 ^ 8 : Nat) = 256 from rfl, pow_succ, Nat.mod_mul, Nat.add_comm, Nat.mul_comm]

theorem natOfBE_lt (bs : List Byte) : natOfBE bs < 256 ^ bs.length := by
  induction bs with
  | nil => simp [natOfBE]
  | cons b bs ih =>
    have hb : b.toNat ≤ 255 := by have := b.isLt; omega
    simp only [natOfBE, List.length_cons, pow_succ]
    have := Nat.mul_le_mul_right (256 ^ bs.length) hb
    omega

/-- A byte sequence is the big-endian form of its number. -/
theorem bytesBE_natOfBE (bs : List Byte) : bytesBE bs.length (natOfBE bs) = bs := by
  have key : ∀ (bs : List Byte) (m : Nat), bytesBE bs.length (m * 256 ^ bs.length + natOfBE bs) = bs := by
    intro bs
    induction bs with
    | nil => intro m; rfl
    | cons b bs ih =>
      intro m
      have hb := natOfBE_lt bs
      have hp : 0 < 256 ^ bs.length := Nat.pow_pos (by decide)
      have e : m * 256 ^ (bs.length + 1) + (b.toNat * 256 ^ bs.length + natOfBE bs) =
          (m * 256 + b.toNat) * 256 ^ bs.length + natOfBE bs := by ring
      simp only [List.length_cons, natOfBE, bytesBE, e, ih]
      congr 1
      rw [Nat.mul_comm, Nat.mul_add_div hp, Nat.div_eq_of_lt hb, Nat.add_zero]
      apply BitVec.eq_of_toNat_eq
      simp only [byte, BitVec.toNat_ofNat]
      have := b.isLt
      omega
  simpa using key bs 0

/-! ## Field readers -/

@[simp] theorem andThen_ok {α β : Type} (x : α) (bs : List Byte) (f : α → List Byte → Parse β) :
    andThen (.ok (x, bs)) f = f x bs := rfl

@[simp] theorem andThen_error {α β : Type} (e : FrameError) (f : α → List Byte → Parse β) :
    andThen (.error e) f = .error e := rfl

/-- A field read succeeds exactly when both its parts do. -/
theorem andThen_eq_ok {α β : Type} {p : Parse α} {f : α → List Byte → Parse β} {y : β} {rest : List Byte} :
    andThen p f = .ok (y, rest) ↔ ∃ x bs, p = .ok (x, bs) ∧ f x bs = .ok (y, rest) := by
  cases p with
  | error e => simp
  | ok v => obtain ⟨x, bs⟩ := v; simp

@[simp] theorem takeByte_cons (b : Byte) (bs : List Byte) : takeByte (b :: bs) = .ok (b, bs) := rfl

@[simp] theorem takeChannel_code (ch : Channel) (bs : List Byte) : takeChannel (ch.code :: bs) = .ok (ch, bs) := by
  cases ch <;> rfl

@[simp] theorem takeMode_code (m : Mode) (bs : List Byte) : takeMode (m.code :: bs) = .ok (m, bs) := by
  cases m <;> rfl

theorem takeBytes_append {n : Nat} {v : List Byte} (h : v.length = n) (bs : List Byte) :
    takeBytes n (v ++ bs) = .ok (v, bs) := by
  subst h
  simp [takeBytes]

theorem takeCounted_encode {p : List Byte} (h : p.length ≤ 255) (bs : List Byte) :
    takeCounted (encodeCounted p ++ bs) = .ok (p, bs) := by
  simp only [encodeCounted, List.cons_append, takeCounted, byte_toNat (show p.length < 256 by omega)]
  exact takeBytes_append rfl bs

theorem takeValue_encode {w v : Nat} (h : v < 256 ^ valueBytes w) (bs : List Byte) :
    takeValue w (bytesBE (valueBytes w) v ++ bs) = .ok (v, bs) := by
  rw [takeValue, takeBytes_append (bytesBE_length ..)]
  simp [natOfBE_bytesBE, Nat.mod_eq_of_lt h]

theorem takeStatus_encode {st : Int} (h1 : -(2 ^ 31) ≤ st) (h2 : st < 2 ^ 31) (bs : List Byte) :
    takeStatus (bytesBE 4 (BitVec.ofInt 32 st).toNat ++ bs) = .ok (st, bs) := by
  rw [takeStatus, takeBytes_append (bytesBE_length ..)]
  have hlt : (BitVec.ofInt 32 st).toNat < 256 ^ 4 := (BitVec.ofInt 32 st).isLt
  simp only [andThen_ok, natOfBE_bytesBE, Nat.mod_eq_of_lt hlt, BitVec.ofNat_toNat, BitVec.setWidth_eq,
    BitVec.toInt_ofInt, Except.ok.injEq, Prod.mk.injEq, and_true]
  rw [Int.bmod_def]
  omega

end Sys2Proof
end

