-- ==== Sys2Proof/Laws/State.lean ====
section
/-! SUPPORT. The state's updates field by field: for every named update of Machine/Ops.lean (and the token's `emit` and the
Caller's `takeFrame`) what each field of the state is after it, so that no later proof unfolds a record update. -/

namespace Sys2Proof.Machine.State

variable (s : State)

/-! ## setPt -/

@[simp] theorem setPt_cfg (v : PtDriver) : (s.setPt v).cfg = s.cfg := rfl
@[simp] theorem setPt_chP (v : PtDriver) : (s.setPt v).chP = s.chP := rfl
@[simp] theorem setPt_chH (v : PtDriver) : (s.setPt v).chH = s.chH := rfl
@[simp] theorem setPt_pt (v : PtDriver) : (s.setPt v).pt = v := rfl
@[simp] theorem setPt_ht (v : PtDriver) : (s.setPt v).ht = s.ht := rfl
@[simp] theorem setPt_port (v : PtDriver) : (s.setPt v).port = s.port := rfl
@[simp] theorem setPt_claim (v : PtDriver) : (s.setPt v).claim = s.claim := rfl
@[simp] theorem setPt_seq (v : PtDriver) : (s.setPt v).seq = s.seq := rfl
@[simp] theorem setPt_m (v : PtDriver) : (s.setPt v).m = s.m := rfl
@[simp] theorem setPt_faults (v : PtDriver) : (s.setPt v).faults = s.faults := rfl
@[simp] theorem setPt_refused (v : PtDriver) : (s.setPt v).refused = s.refused := rfl
@[simp] theorem setPt_asm (v : PtDriver) : (s.setPt v).asm = s.asm := rfl
@[simp] theorem setPt_io (v : PtDriver) : (s.setPt v).io = s.io := rfl

/-! ## setHt -/

@[simp] theorem setHt_cfg (v : HtDriver) : (s.setHt v).cfg = s.cfg := rfl
@[simp] theorem setHt_chP (v : HtDriver) : (s.setHt v).chP = s.chP := rfl
@[simp] theorem setHt_chH (v : HtDriver) : (s.setHt v).chH = s.chH := rfl
@[simp] theorem setHt_pt (v : HtDriver) : (s.setHt v).pt = s.pt := rfl
@[simp] theorem setHt_ht (v : HtDriver) : (s.setHt v).ht = v := rfl
@[simp] theorem setHt_port (v : HtDriver) : (s.setHt v).port = s.port := rfl
@[simp] theorem setHt_claim (v : HtDriver) : (s.setHt v).claim = s.claim := rfl
@[simp] theorem setHt_seq (v : HtDriver) : (s.setHt v).seq = s.seq := rfl
@[simp] theorem setHt_m (v : HtDriver) : (s.setHt v).m = s.m := rfl
@[simp] theorem setHt_faults (v : HtDriver) : (s.setHt v).faults = s.faults := rfl
@[simp] theorem setHt_refused (v : HtDriver) : (s.setHt v).refused = s.refused := rfl
@[simp] theorem setHt_asm (v : HtDriver) : (s.setHt v).asm = s.asm := rfl
@[simp] theorem setHt_io (v : HtDriver) : (s.setHt v).io = s.io := rfl

/-! ## setPtReady -/

@[simp] theorem setPtReady_cfg (b : Bool) : (s.setPtReady b).cfg = s.cfg := rfl
@[simp] theorem setPtReady_chP (b : Bool) : (s.setPtReady b).chP = s.chP := rfl
@[simp] theorem setPtReady_chH (b : Bool) : (s.setPtReady b).chH = s.chH := rfl
@[simp] theorem setPtReady_pt (b : Bool) : (s.setPtReady b).pt = { s.pt with ready := b } := rfl
@[simp] theorem setPtReady_ht (b : Bool) : (s.setPtReady b).ht = s.ht := rfl
@[simp] theorem setPtReady_port (b : Bool) : (s.setPtReady b).port = s.port := rfl
@[simp] theorem setPtReady_claim (b : Bool) : (s.setPtReady b).claim = s.claim := rfl
@[simp] theorem setPtReady_seq (b : Bool) : (s.setPtReady b).seq = s.seq := rfl
@[simp] theorem setPtReady_m (b : Bool) : (s.setPtReady b).m = s.m := rfl
@[simp] theorem setPtReady_faults (b : Bool) : (s.setPtReady b).faults = s.faults := rfl
@[simp] theorem setPtReady_refused (b : Bool) : (s.setPtReady b).refused = s.refused := rfl
@[simp] theorem setPtReady_asm (b : Bool) : (s.setPtReady b).asm = s.asm := rfl
@[simp] theorem setPtReady_io (b : Bool) : (s.setPtReady b).io = s.io := rfl

/-! ## setHtReady -/

@[simp] theorem setHtReady_cfg (b : Bool) : (s.setHtReady b).cfg = s.cfg := rfl
@[simp] theorem setHtReady_chP (b : Bool) : (s.setHtReady b).chP = s.chP := rfl
@[simp] theorem setHtReady_chH (b : Bool) : (s.setHtReady b).chH = s.chH := rfl
@[simp] theorem setHtReady_pt (b : Bool) : (s.setHtReady b).pt = s.pt := rfl
@[simp] theorem setHtReady_ht (b : Bool) : (s.setHtReady b).ht = { s.ht with ready := b } := rfl
@[simp] theorem setHtReady_port (b : Bool) : (s.setHtReady b).port = s.port := rfl
@[simp] theorem setHtReady_claim (b : Bool) : (s.setHtReady b).claim = s.claim := rfl
@[simp] theorem setHtReady_seq (b : Bool) : (s.setHtReady b).seq = s.seq := rfl
@[simp] theorem setHtReady_m (b : Bool) : (s.setHtReady b).m = s.m := rfl
@[simp] theorem setHtReady_faults (b : Bool) : (s.setHtReady b).faults = s.faults := rfl
@[simp] theorem setHtReady_refused (b : Bool) : (s.setHtReady b).refused = s.refused := rfl
@[simp] theorem setHtReady_asm (b : Bool) : (s.setHtReady b).asm = s.asm := rfl
@[simp] theorem setHtReady_io (b : Bool) : (s.setHtReady b).io = s.io := rfl

/-! ## setPhase -/

@[simp] theorem setPhase_cfg (p : Phase) : (s.setPhase p).cfg = s.cfg := rfl
@[simp] theorem setPhase_chP (p : Phase) : (s.setPhase p).chP = s.chP := rfl
@[simp] theorem setPhase_chH (p : Phase) : (s.setPhase p).chH = s.chH := rfl
@[simp] theorem setPhase_pt (p : Phase) : (s.setPhase p).pt = s.pt := rfl
@[simp] theorem setPhase_ht (p : Phase) : (s.setPhase p).ht = s.ht := rfl
@[simp] theorem setPhase_port (p : Phase) : (s.setPhase p).port = s.port := rfl
@[simp] theorem setPhase_claim (p : Phase) : (s.setPhase p).claim = s.claim := rfl
@[simp] theorem setPhase_seq (p : Phase) : (s.setPhase p).seq = s.seq := rfl
@[simp] theorem setPhase_m (p : Phase) : (s.setPhase p).m = { s.m with phase := p } := rfl
@[simp] theorem setPhase_faults (p : Phase) : (s.setPhase p).faults = s.faults := rfl
@[simp] theorem setPhase_refused (p : Phase) : (s.setPhase p).refused = s.refused := rfl
@[simp] theorem setPhase_asm (p : Phase) : (s.setPhase p).asm = s.asm := rfl
@[simp] theorem setPhase_io (p : Phase) : (s.setPhase p).io = s.io := rfl

/-! ## setFails -/

@[simp] theorem setFails_cfg (n : Nat) : (s.setFails n).cfg = s.cfg := rfl
@[simp] theorem setFails_chP (n : Nat) : (s.setFails n).chP = s.chP := rfl
@[simp] theorem setFails_chH (n : Nat) : (s.setFails n).chH = s.chH := rfl
@[simp] theorem setFails_pt (n : Nat) : (s.setFails n).pt = s.pt := rfl
@[simp] theorem setFails_ht (n : Nat) : (s.setFails n).ht = s.ht := rfl
@[simp] theorem setFails_port (n : Nat) : (s.setFails n).port = s.port := rfl
@[simp] theorem setFails_claim (n : Nat) : (s.setFails n).claim = s.claim := rfl
@[simp] theorem setFails_seq (n : Nat) : (s.setFails n).seq = s.seq := rfl
@[simp] theorem setFails_m (n : Nat) : (s.setFails n).m = { s.m with fails := n } := rfl
@[simp] theorem setFails_faults (n : Nat) : (s.setFails n).faults = s.faults := rfl
@[simp] theorem setFails_refused (n : Nat) : (s.setFails n).refused = s.refused := rfl
@[simp] theorem setFails_asm (n : Nat) : (s.setFails n).asm = s.asm := rfl
@[simp] theorem setFails_io (n : Nat) : (s.setFails n).io = s.io := rfl

/-! ## moveTo -/

@[simp] theorem moveTo_cfg (op : Instr) (k : Nat) : (s.moveTo op k).cfg = s.cfg := rfl
@[simp] theorem moveTo_chP (op : Instr) (k : Nat) : (s.moveTo op k).chP = s.chP := rfl
@[simp] theorem moveTo_chH (op : Instr) (k : Nat) : (s.moveTo op k).chH = s.chH := rfl
@[simp] theorem moveTo_pt (op : Instr) (k : Nat) : (s.moveTo op k).pt = s.pt := rfl
@[simp] theorem moveTo_ht (op : Instr) (k : Nat) : (s.moveTo op k).ht = s.ht := rfl
@[simp] theorem moveTo_port (op : Instr) (k : Nat) : (s.moveTo op k).port = s.port := rfl
@[simp] theorem moveTo_claim (op : Instr) (k : Nat) : (s.moveTo op k).claim = s.claim := rfl
@[simp] theorem moveTo_seq (op : Instr) (k : Nat) : (s.moveTo op k).seq = .exec op k := rfl
@[simp] theorem moveTo_m (op : Instr) (k : Nat) : (s.moveTo op k).m = s.m := rfl
@[simp] theorem moveTo_faults (op : Instr) (k : Nat) : (s.moveTo op k).faults = s.faults := rfl
@[simp] theorem moveTo_refused (op : Instr) (k : Nat) : (s.moveTo op k).refused = s.refused := rfl
@[simp] theorem moveTo_asm (op : Instr) (k : Nat) : (s.moveTo op k).asm = s.asm := rfl
@[simp] theorem moveTo_io (op : Instr) (k : Nat) : (s.moveTo op k).io = s.io := rfl

/-! ## finish -/

@[simp] theorem finish_cfg (r : Result) : (s.finish r).cfg = s.cfg := rfl
@[simp] theorem finish_chP (r : Result) : (s.finish r).chP = s.chP := rfl
@[simp] theorem finish_chH (r : Result) : (s.finish r).chH = s.chH := rfl
@[simp] theorem finish_pt (r : Result) : (s.finish r).pt = s.pt := rfl
@[simp] theorem finish_ht (r : Result) : (s.finish r).ht = s.ht := rfl
@[simp] theorem finish_port (r : Result) : (s.finish r).port = s.port := rfl
@[simp] theorem finish_claim (r : Result) : (s.finish r).claim = s.claim := rfl
@[simp] theorem finish_seq (r : Result) : (s.finish r).seq = .idle := rfl
@[simp] theorem finish_m (r : Result) : (s.finish r).m = s.m := rfl
@[simp] theorem finish_faults (r : Result) : (s.finish r).faults = s.faults := rfl
@[simp] theorem finish_refused (r : Result) : (s.finish r).refused = s.refused := rfl
@[simp] theorem finish_asm (r : Result) : (s.finish r).asm = s.asm := rfl
@[simp] theorem finish_io (r : Result) : (s.finish r).io = { s.io with result := some r } := rfl

/-! ## fault -/

@[simp] theorem fault_cfg (f : Fault) : (s.fault f).cfg = s.cfg := rfl
@[simp] theorem fault_chP (f : Fault) : (s.fault f).chP = s.chP := rfl
@[simp] theorem fault_chH (f : Fault) : (s.fault f).chH = s.chH := rfl
@[simp] theorem fault_pt (f : Fault) : (s.fault f).pt = s.pt := rfl
@[simp] theorem fault_ht (f : Fault) : (s.fault f).ht = s.ht := rfl
@[simp] theorem fault_port (f : Fault) : (s.fault f).port = s.port := rfl
@[simp] theorem fault_claim (f : Fault) : (s.fault f).claim = s.claim := rfl
@[simp] theorem fault_seq (f : Fault) : (s.fault f).seq = .idle := rfl
@[simp] theorem fault_m (f : Fault) : (s.fault f).m = s.m := rfl
@[simp] theorem fault_faults (f : Fault) : (s.fault f).faults = State.insertNew f s.faults := rfl
@[simp] theorem fault_refused (f : Fault) : (s.fault f).refused = s.refused := rfl
@[simp] theorem fault_asm (f : Fault) : (s.fault f).asm = s.asm := rfl
@[simp] theorem fault_io (f : Fault) : (s.fault f).io = s.io := rfl

/-! ## refuse -/

@[simp] theorem refuse_cfg (f : Refusal) : (s.refuse f).cfg = s.cfg := rfl
@[simp] theorem refuse_chP (f : Refusal) : (s.refuse f).chP = s.chP := rfl
@[simp] theorem refuse_chH (f : Refusal) : (s.refuse f).chH = s.chH := rfl
@[simp] theorem refuse_pt (f : Refusal) : (s.refuse f).pt = s.pt := rfl
@[simp] theorem refuse_ht (f : Refusal) : (s.refuse f).ht = s.ht := rfl
@[simp] theorem refuse_port (f : Refusal) : (s.refuse f).port = s.port := rfl
@[simp] theorem refuse_claim (f : Refusal) : (s.refuse f).claim = s.claim := rfl
@[simp] theorem refuse_seq (f : Refusal) : (s.refuse f).seq = .idle := rfl
@[simp] theorem refuse_m (f : Refusal) : (s.refuse f).m = s.m := rfl
@[simp] theorem refuse_faults (f : Refusal) : (s.refuse f).faults = s.faults := rfl
@[simp] theorem refuse_refused (f : Refusal) : (s.refuse f).refused = State.insertNew f s.refused := rfl
@[simp] theorem refuse_asm (f : Refusal) : (s.refuse f).asm = s.asm := rfl
@[simp] theorem refuse_io (f : Refusal) : (s.refuse f).io = s.io := rfl

/-! ## record -/

@[simp] theorem record_cfg (x : Exchange) : (s.record x).cfg = s.cfg := rfl
@[simp] theorem record_chP (x : Exchange) : (s.record x).chP = s.chP := rfl
@[simp] theorem record_chH (x : Exchange) : (s.record x).chH = s.chH := rfl
@[simp] theorem record_pt (x : Exchange) : (s.record x).pt = s.pt := rfl
@[simp] theorem record_ht (x : Exchange) : (s.record x).ht = s.ht := rfl
@[simp] theorem record_port (x : Exchange) : (s.record x).port = s.port := rfl
@[simp] theorem record_claim (x : Exchange) : (s.record x).claim = s.claim := rfl
@[simp] theorem record_seq (x : Exchange) : (s.record x).seq = s.seq := rfl
@[simp] theorem record_m (x : Exchange) : (s.record x).m = s.m := rfl
@[simp] theorem record_faults (x : Exchange) : (s.record x).faults = s.faults := rfl
@[simp] theorem record_refused (x : Exchange) : (s.record x).refused = s.refused := rfl
@[simp] theorem record_asm (x : Exchange) : (s.record x).asm = s.asm := rfl
@[simp] theorem record_io (x : Exchange) : (s.record x).io = { s.io with trace := s.io.trace ++ [x] } := rfl

/-! ## transact -/

@[simp] theorem transact_cfg (op : Instr) (k : Nat) (p : List Byte) : (s.transact op k p).cfg = s.cfg := rfl
@[simp] theorem transact_chP (op : Instr) (k : Nat) (p : List Byte) : (s.transact op k p).chP = s.chP := rfl
@[simp] theorem transact_chH (op : Instr) (k : Nat) (p : List Byte) : (s.transact op k p).chH = s.chH := rfl
@[simp] theorem transact_pt (op : Instr) (k : Nat) (p : List Byte) : (s.transact op k p).pt = s.pt := rfl
@[simp] theorem transact_ht (op : Instr) (k : Nat) (p : List Byte) : (s.transact op k p).ht = s.ht := rfl
@[simp] theorem transact_port (op : Instr) (k : Nat) (p : List Byte) : (s.transact op k p).port = .busy p := rfl
@[simp] theorem transact_claim (op : Instr) (k : Nat) (p : List Byte) : (s.transact op k p).claim = s.claim := rfl
@[simp] theorem transact_seq (op : Instr) (k : Nat) (p : List Byte) : (s.transact op k p).seq = .exec op k := rfl
@[simp] theorem transact_m (op : Instr) (k : Nat) (p : List Byte) : (s.transact op k p).m = s.m := rfl
@[simp] theorem transact_faults (op : Instr) (k : Nat) (p : List Byte) : (s.transact op k p).faults = s.faults := rfl
@[simp] theorem transact_refused (op : Instr) (k : Nat) (p : List Byte) : (s.transact op k p).refused = s.refused := rfl
@[simp] theorem transact_asm (op : Instr) (k : Nat) (p : List Byte) : (s.transact op k p).asm = s.asm := rfl
@[simp] theorem transact_io (op : Instr) (k : Nat) (p : List Byte) : (s.transact op k p).io = { s.io with trace := s.io.trace ++ [.transact s.cfg.busId p] } := rfl

/-! ## claimBus -/

@[simp] theorem claimBus_cfg (op : Instr) (k : Nat) : (s.claimBus op k).cfg = s.cfg := rfl
@[simp] theorem claimBus_chP (op : Instr) (k : Nat) : (s.claimBus op k).chP = s.chP := rfl
@[simp] theorem claimBus_chH (op : Instr) (k : Nat) : (s.claimBus op k).chH = s.chH := rfl
@[simp] theorem claimBus_pt (op : Instr) (k : Nat) : (s.claimBus op k).pt = s.pt := rfl
@[simp] theorem claimBus_ht (op : Instr) (k : Nat) : (s.claimBus op k).ht = s.ht := rfl
@[simp] theorem claimBus_port (op : Instr) (k : Nat) : (s.claimBus op k).port = s.port := rfl
@[simp] theorem claimBus_claim (op : Instr) (k : Nat) : (s.claimBus op k).claim = .busy := rfl
@[simp] theorem claimBus_seq (op : Instr) (k : Nat) : (s.claimBus op k).seq = .exec op k := rfl
@[simp] theorem claimBus_m (op : Instr) (k : Nat) : (s.claimBus op k).m = s.m := rfl
@[simp] theorem claimBus_faults (op : Instr) (k : Nat) : (s.claimBus op k).faults = s.faults := rfl
@[simp] theorem claimBus_refused (op : Instr) (k : Nat) : (s.claimBus op k).refused = s.refused := rfl
@[simp] theorem claimBus_asm (op : Instr) (k : Nat) : (s.claimBus op k).asm = s.asm := rfl
@[simp] theorem claimBus_io (op : Instr) (k : Nat) : (s.claimBus op k).io = { s.io with trace := s.io.trace ++ [.claim s.cfg.busSda s.cfg.busScl s.cfg.busBitrate] } := rfl

/-! ## release -/

@[simp] theorem release_cfg : (s.release).cfg = s.cfg := rfl
@[simp] theorem release_chP : (s.release).chP = s.chP := rfl
@[simp] theorem release_chH : (s.release).chH = s.chH := rfl
@[simp] theorem release_pt : (s.release).pt = s.pt := rfl
@[simp] theorem release_ht : (s.release).ht = s.ht := rfl
@[simp] theorem release_port : (s.release).port = s.port := rfl
@[simp] theorem release_claim : (s.release).claim = s.claim := rfl
@[simp] theorem release_seq : (s.release).seq = s.seq := rfl
@[simp] theorem release_m : (s.release).m = s.m := rfl
@[simp] theorem release_faults : (s.release).faults = s.faults := rfl
@[simp] theorem release_refused : (s.release).refused = s.refused := rfl
@[simp] theorem release_asm : (s.release).asm = s.asm := rfl
@[simp] theorem release_io : (s.release).io = { s.io with trace := s.io.trace ++ [.release] } := rfl

/-! ## emit -/

@[simp] theorem emit_cfg (es : List Byte) : (s.emit es).cfg = s.cfg := rfl
@[simp] theorem emit_chP (es : List Byte) : (s.emit es).chP = s.chP := rfl
@[simp] theorem emit_chH (es : List Byte) : (s.emit es).chH = s.chH := rfl
@[simp] theorem emit_pt (es : List Byte) : (s.emit es).pt = s.pt := rfl
@[simp] theorem emit_ht (es : List Byte) : (s.emit es).ht = s.ht := rfl
@[simp] theorem emit_port (es : List Byte) : (s.emit es).port = s.port := rfl
@[simp] theorem emit_claim (es : List Byte) : (s.emit es).claim = s.claim := rfl
@[simp] theorem emit_seq (es : List Byte) : (s.emit es).seq = s.seq := rfl
@[simp] theorem emit_m (es : List Byte) : (s.emit es).m = s.m := rfl
@[simp] theorem emit_faults (es : List Byte) : (s.emit es).faults = s.faults := rfl
@[simp] theorem emit_refused (es : List Byte) : (s.emit es).refused = s.refused := rfl
@[simp] theorem emit_asm (es : List Byte) : (s.emit es).asm = s.asm ++ es := rfl
@[simp] theorem emit_io (es : List Byte) : (s.emit es).io = s.io := rfl

/-! ## takeFrame -/

@[simp] theorem takeFrame_cfg (fs : List (List Byte)) : (takeFrame s fs).cfg = s.cfg := rfl
@[simp] theorem takeFrame_chP (fs : List (List Byte)) : (takeFrame s fs).chP = s.chP := rfl
@[simp] theorem takeFrame_chH (fs : List (List Byte)) : (takeFrame s fs).chH = s.chH := rfl
@[simp] theorem takeFrame_pt (fs : List (List Byte)) : (takeFrame s fs).pt = s.pt := rfl
@[simp] theorem takeFrame_ht (fs : List (List Byte)) : (takeFrame s fs).ht = s.ht := rfl
@[simp] theorem takeFrame_port (fs : List (List Byte)) : (takeFrame s fs).port = s.port := rfl
@[simp] theorem takeFrame_claim (fs : List (List Byte)) : (takeFrame s fs).claim = s.claim := rfl
@[simp] theorem takeFrame_seq (fs : List (List Byte)) : (takeFrame s fs).seq = s.seq := rfl
@[simp] theorem takeFrame_m (fs : List (List Byte)) : (takeFrame s fs).m = s.m := rfl
@[simp] theorem takeFrame_faults (fs : List (List Byte)) : (takeFrame s fs).faults = s.faults := rfl
@[simp] theorem takeFrame_refused (fs : List (List Byte)) : (takeFrame s fs).refused = s.refused := rfl
@[simp] theorem takeFrame_asm (fs : List (List Byte)) : (takeFrame s fs).asm = s.asm := rfl
@[simp] theorem takeFrame_io (fs : List (List Byte)) : (takeFrame s fs).io = { s.io with frames := fs, result := none } := rfl

/-! ## setChan, by the channel written -/

@[simp] theorem setChan_cfg (ch : Channel) (v : ChannelSt) : (s.setChan ch v).cfg = s.cfg := by cases ch <;> rfl
@[simp] theorem setChan_P_chP (v : ChannelSt) : (s.setChan .P v).chP = v := rfl
@[simp] theorem setChan_H_chP (v : ChannelSt) : (s.setChan .H v).chP = s.chP := rfl
@[simp] theorem setChan_P_chH (v : ChannelSt) : (s.setChan .P v).chH = s.chH := rfl
@[simp] theorem setChan_H_chH (v : ChannelSt) : (s.setChan .H v).chH = v := rfl
@[simp] theorem setChan_pt (ch : Channel) (v : ChannelSt) : (s.setChan ch v).pt = s.pt := by cases ch <;> rfl
@[simp] theorem setChan_ht (ch : Channel) (v : ChannelSt) : (s.setChan ch v).ht = s.ht := by cases ch <;> rfl
@[simp] theorem setChan_port (ch : Channel) (v : ChannelSt) : (s.setChan ch v).port = s.port := by cases ch <;> rfl
@[simp] theorem setChan_claim (ch : Channel) (v : ChannelSt) : (s.setChan ch v).claim = s.claim := by cases ch <;> rfl
@[simp] theorem setChan_seq (ch : Channel) (v : ChannelSt) : (s.setChan ch v).seq = s.seq := by cases ch <;> rfl
@[simp] theorem setChan_m (ch : Channel) (v : ChannelSt) : (s.setChan ch v).m = s.m := by cases ch <;> rfl
@[simp] theorem setChan_faults (ch : Channel) (v : ChannelSt) : (s.setChan ch v).faults = s.faults := by cases ch <;> rfl
@[simp] theorem setChan_refused (ch : Channel) (v : ChannelSt) : (s.setChan ch v).refused = s.refused := by cases ch <;> rfl
@[simp] theorem setChan_asm (ch : Channel) (v : ChannelSt) : (s.setChan ch v).asm = s.asm := by cases ch <;> rfl
@[simp] theorem setChan_io (ch : Channel) (v : ChannelSt) : (s.setChan ch v).io = s.io := by cases ch <;> rfl

/-! ## Channels and owners -/

@[simp] theorem chan_P : s.chan .P = s.chP := rfl
@[simp] theorem chan_H : s.chan .H = s.chH := rfl
@[simp] theorem owner_P : s.owner .P = s.pt.st := rfl
@[simp] theorem owner_H : s.owner .H = s.ht.st := rfl
@[simp] theorem chan_setChan_same (ch : Channel) (v : ChannelSt) : (s.setChan ch v).chan ch = v := by cases ch <;> rfl
@[simp] theorem chan_setChan_other (ch : Channel) (v : ChannelSt) :
    (s.setChan ch v).chan (otherChannel ch) = s.chan (otherChannel ch) := by cases ch <;> rfl
@[simp] theorem owner_setChan (ch c : Channel) (v : ChannelSt) : (s.setChan ch v).owner c = s.owner c := by
  cases ch <;> cases c <;> rfl

end Sys2Proof.Machine.State

namespace Sys2Proof.Machine

@[simp] theorem otherChannel_P : otherChannel .P = .H := rfl
@[simp] theorem otherChannel_H : otherChannel .H = .P := rfl

end Sys2Proof.Machine
end

