-- ==== Sys2Proof/Laws/Ops.lean ====
section
/-! SUPPORT. One lemma per shared operation that says once everything it can do, for later proofs to cite instead of unfolding
it: the sticky sets, the encoders, the channel's transaction, opening and closing, the drivers' guards, the façade's failed
attempt, and the cases of a step. -/

namespace Sys2Proof.Machine

/-! ## The sticky sets -/

theorem mem_insertNew {α : Type} [DecidableEq α] (x y : α) (xs : List α) :
    y ∈ State.insertNew x xs ↔ y = x ∨ y ∈ xs := by
  unfold State.insertNew
  split <;> simp_all [or_comm]

theorem insertNew_subset {α : Type} [DecidableEq α] (x : α) (xs : List α) : xs ⊆ State.insertNew x xs :=
  fun _ h => (mem_insertNew x _ xs).2 (.inr h)

theorem insertNew_nodup {α : Type} [DecidableEq α] (x : α) {xs : List α} (h : xs.Nodup) : (State.insertNew x xs).Nodup := by
  unfold State.insertNew
  split
  · exact h
  · rw [List.nodup_append]
    exact ⟨h, by simp, fun a ha b hb => by rintro rfl; simp_all⟩

theorem insertNew_nil {α : Type} [DecidableEq α] (x : α) : State.insertNew x [] = [x] := rfl

/-! ## The encoders: what an accepted request gives -/

theorem encodeWrite_ok {e : Bool} {a : Nat} {r : Byte} {p prog : List Byte} (h : encodeWrite e a r p = .ok prog) :
    a < 128 ∧ 1 ≤ p.length ∧ p.length ≤ 254 ∧ prog = shapeW e a r p := by
  unfold encodeWrite at h
  split at h
  · simp at h
  · split at h
    · simp at h
    · simp only [Except.ok.injEq] at h
      exact ⟨by omega, by omega, by omega, h.symm⟩

theorem encodeReadComb_ok {a : Nat} {r : Byte} {l : Nat} {prog : List Byte} (h : encodeReadComb a r l = .ok prog) :
    a < 128 ∧ 1 ≤ l ∧ l ≤ 254 ∧ prog = shapeRC a r l := by
  unfold encodeReadComb at h
  split at h
  · simp at h
  · split at h
    · simp at h
    · simp only [Except.ok.injEq] at h
      exact ⟨by omega, by omega, by omega, h.symm⟩

theorem encodeSplitPtr_ok {a : Nat} {r : Byte} {prog : List Byte} (h : encodeSplitPtr a r = .ok prog) :
    a < 128 ∧ prog = shapeSP a r := by
  unfold encodeSplitPtr at h
  split at h
  · simp at h
  · simp only [Except.ok.injEq] at h
    exact ⟨by omega, h.symm⟩

theorem encodeSplitRead_ok {a l : Nat} {prog : List Byte} (h : encodeSplitRead a l = .ok prog) :
    a < 128 ∧ 1 ≤ l ∧ l ≤ 255 ∧ prog = shapeSR a l := by
  unfold encodeSplitRead at h
  split at h
  · simp at h
  · split at h
    · simp at h
    · simp only [Except.ok.injEq] at h
      exact ⟨by omega, by omega, by omega, h.symm⟩

/-- Within the ranges of 30_encoding.md R65 an encoder accepts. -/
theorem encodeWrite_of_range {e : Bool} {a : Nat} {r : Byte} {p : List Byte} (ha : a < 128) (h1 : 1 ≤ p.length)
    (h2 : p.length ≤ 254) : encodeWrite e a r p = .ok (shapeW e a r p) := by
  unfold encodeWrite
  rw [if_neg (by omega), if_neg (by omega)]

theorem encodeReadComb_of_range {a : Nat} {r : Byte} {l : Nat} (ha : a < 128) (h1 : 1 ≤ l) (h2 : l ≤ 254) :
    encodeReadComb a r l = .ok (shapeRC a r l) := by
  unfold encodeReadComb
  rw [if_neg (by omega), if_neg (by omega)]

theorem encodeSplitPtr_of_range {a : Nat} {r : Byte} (ha : a < 128) : encodeSplitPtr a r = .ok (shapeSP a r) := by
  unfold encodeSplitPtr
  rw [if_neg (by omega)]

theorem encodeSplitRead_of_range {a l : Nat} (ha : a < 128) (h1 : 1 ≤ l) (h2 : l ≤ 255) :
    encodeSplitRead a l = .ok (shapeSR a l) := by
  unfold encodeSplitRead
  rw [if_neg (by omega), if_neg (by omega)]

/-! ## Channels -/

/-- Everything a channel transaction can do: refuse, fault on ownership, send the program, or fault on a Closed channel. -/
theorem channelTransact_cases (op : Instr) (k : Nat) (direct : Bool) (ch : Channel) (code : Byte)
    (prog : Except Refusal (List Byte)) (s : State) :
    (∃ e, prog = .error e ∧ channelTransact op k direct ch code prog s = s.refuse e) ∨
    (∃ p, prog = .ok p ∧ direct = true ∧ s.owner ch = .configured ∧
      channelTransact op k direct ch code prog s = s.fault (.channelOwned ch code)) ∨
    (∃ p, prog = .ok p ∧ (direct = true → s.owner ch ≠ .configured) ∧ s.chan ch = .opened ∧
      channelTransact op k direct ch code prog s = s.transact op k p) ∨
    (∃ p, prog = .ok p ∧ (direct = true → s.owner ch ≠ .configured) ∧ s.chan ch = .closed ∧
      channelTransact op k direct ch code prog s = s.fault (.channelNotOpen ch code)) := by
  cases prog with
  | error e => exact .inl ⟨e, rfl, rfl⟩
  | ok p =>
    by_cases ho : direct = true ∧ s.owner ch = .configured
    · exact .inr (.inl ⟨p, rfl, ho.1, ho.2, by simp [channelTransact, ho]⟩)
    · have hd : direct = true → s.owner ch ≠ .configured := fun h1 h2 => ho ⟨h1, h2⟩
      cases hc : s.chan ch with
      | opened => exact .inr (.inr (.inl ⟨p, rfl, hd, rfl, by simp [channelTransact, ho, hc]⟩))
      | closed => exact .inr (.inr (.inr ⟨p, rfl, hd, rfl, by simp [channelTransact, ho, hc]⟩))

/-- An accepted program on an open channel goes out. -/
theorem channelTransact_sends (op : Instr) (k : Nat) (direct : Bool) (ch : Channel) (code : Byte) (p : List Byte) (s : State)
    (hd : direct = true → s.owner ch ≠ .configured) (hc : s.chan ch = .opened) :
    channelTransact op k direct ch code (.ok p) s = s.transact op k p := by
  have ho : ¬ (direct = true ∧ s.owner ch = .configured) := fun h => hd h.1 h.2
  simp [channelTransact, ho, hc]

/-- Everything CH_OPEN can do after its ownership test. -/
theorem openBegin_cases (op : Instr) (k : Nat) (ch : Channel) (already : State → State) (s : State) :
    (s.chan ch = .opened ∧ openBegin op k ch already s = already s) ∨
    (s.chan ch = .closed ∧ s.chan (otherChannel ch) = .opened ∧
      openBegin op k ch already s = s.fault (.concurrentChannel ch)) ∨
    (s.chan ch = .closed ∧ s.chan (otherChannel ch) = .closed ∧ openBegin op k ch already s = s.claimBus op k) := by
  cases h : s.chan ch <;> cases h' : s.chan (otherChannel ch) <;> simp [openBegin, h, h']

/-- Everything CH_CLOSE can do after its ownership test. -/
theorem closeBegin_cases (ch : Channel) (closed : State → State) (s : State) :
    (s.chan ch = .opened ∧ closeBegin ch closed s = closed (s.release.setChan ch .closed)) ∨
    (s.chan ch = .closed ∧ closeBegin ch closed s = s.fault (.doubleClose ch)) := by
  cases h : s.chan ch <;> simp [closeBegin, h]

/-! ## Drivers -/

theorem ptGuard_cases (code : Byte) (body : State → State) (s : State) :
    (s.pt.st = .configured ∧ ptGuard code body s = body s) ∨
    (s.pt.st ≠ .configured ∧ ptGuard code body s = s.fault (.driverState .PT code s.pt.st)) := by
  by_cases h : s.pt.st = .configured <;> simp [ptGuard, h]

theorem htGuard_cases (code : Byte) (body : State → State) (s : State) :
    (s.ht.st = .configured ∧ htGuard code body s = body s) ∨
    (s.ht.st ≠ .configured ∧ htGuard code body s = s.fault (.driverState .HT code s.ht.st)) := by
  by_cases h : s.ht.st = .configured <;> simp [htGuard, h]

/-- A PT write is always encodable: its address is 0x60 and its payload one byte. -/
theorem ptWrite_cases (op : Instr) (k : Nat) (r b : Byte) (s : State) :
    (s.chP = .opened ∧ ptWrite op k r b s = s.transact op k (shapeW s.cfg.escapeWriteLength addrPt r [b])) ∨
    (s.chP = .closed ∧ ptWrite op k r b s = s.fault (.channelNotOpen .P 0x12)) := by
  have he : encodeWrite s.cfg.escapeWriteLength addrPt r [b] = .ok (shapeW s.cfg.escapeWriteLength addrPt r [b]) :=
    encodeWrite_of_range (by decide) (by simp) (by simp)
  cases hc : s.chP <;> simp [ptWrite, writeBegin, he, channelTransact, hc]

/-! ## The façade -/

/-- A failed attempt either reaches the bound and closes with Timeout, or goes back to the loop's head. -/
theorem failedAttempt_cases (q : Quantity) (s : State) :
    (pollsExhausted s.cfg.maxPolls (s.m.fails + 1) = true ∧ failedAttempt q s =
      closeWith q (.measure (.error .timeout q.sensor .poll)) ((s.setFails (s.m.fails + 1)).setPhase .close)) ∨
    (pollsExhausted s.cfg.maxPolls (s.m.fails + 1) = false ∧ failedAttempt q s =
      (s.setFails (s.m.fails + 1)).moveTo q.op (pollStep q.sensor)) := by
  cases h : pollsExhausted s.cfg.maxPolls (s.m.fails + 1) <;> simp [failedAttempt, h]

/-- A close in a Configured driver on an open channel. -/
theorem ptCloseWith_configured (r : Result) (s : State) (hs : s.pt.st = .configured) (hc : s.chP = .opened) :
    ptCloseWith r s = (((s.release.setChan .P .closed).setPt ⟨.closed, .none, false⟩).finish r) := by
  simp [ptCloseWith, ptGuard, hs, closeBegin, hc]

theorem htCloseWith_configured (r : Result) (s : State) (hs : s.ht.st = .configured) (hc : s.chH = .opened) :
    htCloseWith r s = (((s.release.setChan .H .closed).setHt ⟨.closed, false⟩).finish r) := by
  simp [htCloseWith, htGuard, hs, closeBegin, hc]

/-! ## A step -/

/-- Every way a step can go: one agent moves, and which one is read off the ports and the sequencer position. -/
theorem step_cases (s : State) :
    (∃ p, s.port = .busy p ∧ step s = .next (transportStep s)) ∨
    (∃ st d, s.port = .answered st d ∧ step s = consumeTransport st d s) ∨
    (s.port = .idle ∧ s.claim = .busy ∧ step s = .next (claimStep s)) ∨
    (∃ ok, s.port = .idle ∧ s.claim = .answered ok ∧ step s = consumeClaim ok s) ∨
    (∃ op k, s.port = .idle ∧ s.claim = .idle ∧ s.seq = .exec op k ∧ step s = orNoPosition (proceed op k s)) ∨
    (s.port = .idle ∧ s.claim = .idle ∧ s.seq = .idle ∧ step s = commandStep s) := by
  cases hp : s.port with
  | busy p => exact .inl ⟨p, rfl, by simp [step, hp]⟩
  | answered st d => exact .inr (.inl ⟨st, d, rfl, by simp [step, hp]⟩)
  | idle =>
    cases hc : s.claim with
    | busy => exact .inr (.inr (.inl ⟨rfl, rfl, by simp [step, hp, hc]⟩))
    | answered ok => exact .inr (.inr (.inr (.inl ⟨ok, rfl, rfl, by simp [step, hp, hc]⟩)))
    | idle =>
      cases hq : s.seq with
      | exec op k =>
        exact .inr (.inr (.inr (.inr (.inl ⟨op, k, rfl, rfl, rfl, by simp [step, hp, hc, hq]⟩))))
      | idle => exact .inr (.inr (.inr (.inr (.inr ⟨rfl, rfl, rfl, by simp [step, hp, hc, hq]⟩))))

end Sys2Proof.Machine
end

