-- ==== Sys2Proof/Laws/PerInstr.lean ====
section
/-! SUPPORT. Facts stated per instruction. Family `OpcodeFirst`: the first byte of an instruction's written form is its row's value
in spec/opcode_table.json (30_encoding.md R61, R70, R71), whatever the operands and under both readings of R68. -/

namespace Sys2Proof.Laws.OpcodeFirst

/-- Byte 0 of the written form is the row's value, and every row's value is one byte of the table. -/
def Statement (i : Instr) : Prop := ∀ e, (encode e i).head? = some (opcode i) ∧ (i.isToken = true ∨ opcode i ∈ commandOpcodes)

theorem tokEnd : Statement .tokEnd := fun _ => ⟨rfl, .inl rfl⟩
theorem tokEscape (x : Byte) : Statement (.tokEscape x) := fun _ => ⟨rfl, .inl rfl⟩
theorem tokStart : Statement .tokStart := fun _ => ⟨rfl, .inl rfl⟩
theorem tokStop : Statement .tokStop := fun _ => ⟨rfl, .inl rfl⟩
theorem tokAddress (a : Nat) : Statement (.tokAddress a) := fun _ => ⟨rfl, .inl rfl⟩
theorem tokFlags : Statement .tokFlags := fun _ => ⟨rfl, .inl rfl⟩
theorem tokRead (count : Nat) : Statement (.tokRead count) := fun _ => ⟨rfl, .inl rfl⟩
theorem tokWrite (arg : WriteArg) : Statement (.tokWrite arg) := fun _ => ⟨rfl, .inl rfl⟩
theorem encWrite (a : Nat) (r : Byte) (p : List Byte) : Statement (.encWrite a r p) := fun _ => ⟨rfl, .inr (by simp [opcode, commandOpcodes])⟩
theorem encReadComb (a : Nat) (r : Byte) (l : Nat) : Statement (.encReadComb a r l) := fun _ => ⟨rfl, .inr (by simp [opcode, commandOpcodes])⟩
theorem encSplitPtr (a : Nat) (r : Byte) : Statement (.encSplitPtr a r) := fun _ => ⟨rfl, .inr (by simp [opcode, commandOpcodes])⟩
theorem encSplitRead (a : Nat) (l : Nat) : Statement (.encSplitRead a l) := fun _ => ⟨rfl, .inr (by simp [opcode, commandOpcodes])⟩
theorem decResult (st : Int) (d : List Byte) : Statement (.decResult st d) := fun _ => ⟨rfl, .inr (by simp [opcode, commandOpcodes])⟩
theorem chOpen (ch : Channel) : Statement (.chOpen ch) := fun _ => ⟨rfl, .inr (by simp [opcode, commandOpcodes])⟩
theorem chRead (ch : Channel) (a : Nat) (r : Byte) (l : Nat) : Statement (.chRead ch a r l) := fun _ => ⟨rfl, .inr (by simp [opcode, commandOpcodes])⟩
theorem chWrite (ch : Channel) (a : Nat) (r : Byte) (p : List Byte) : Statement (.chWrite ch a r p) := fun _ => ⟨rfl, .inr (by simp [opcode, commandOpcodes])⟩
theorem chWrite1 (ch : Channel) (a : Nat) (r : Byte) (b : Byte) : Statement (.chWrite1 ch a r b) := fun _ => ⟨rfl, .inr (by simp [opcode, commandOpcodes])⟩
theorem chClose (ch : Channel) : Statement (.chClose ch) := fun _ => ⟨rfl, .inr (by simp [opcode, commandOpcodes])⟩
theorem pwSetPointer (a : Nat) (r : Byte) : Statement (.pwSetPointer a r) := fun _ => ⟨rfl, .inr (by simp [opcode, commandOpcodes])⟩
theorem pwReadAfterPointer (a : Nat) (l : Nat) : Statement (.pwReadAfterPointer a l) := fun _ => ⟨rfl, .inr (by simp [opcode, commandOpcodes])⟩
theorem ptConstruct (mode : Mode) : Statement (.ptConstruct mode) := fun _ => ⟨rfl, .inr (by simp [opcode, commandOpcodes])⟩
theorem ptSelectAltitude : Statement .ptSelectAltitude := fun _ => ⟨rfl, .inr (by decide)⟩
theorem ptSelectBarometric : Statement .ptSelectBarometric := fun _ => ⟨rfl, .inr (by decide)⟩
theorem ptIsReady : Statement .ptIsReady := fun _ => ⟨rfl, .inr (by decide)⟩
theorem ptFetchRaw : Statement .ptFetchRaw := fun _ => ⟨rfl, .inr (by decide)⟩
theorem ptDecodeAltitude (raw : List Byte) : Statement (.ptDecodeAltitude raw) := fun _ => ⟨rfl, .inr (by simp [opcode, commandOpcodes])⟩
theorem ptDecodePressure (raw : List Byte) : Statement (.ptDecodePressure raw) := fun _ => ⟨rfl, .inr (by simp [opcode, commandOpcodes])⟩
theorem ptDecodeTemperature (raw : List Byte) : Statement (.ptDecodeTemperature raw) := fun _ => ⟨rfl, .inr (by simp [opcode, commandOpcodes])⟩
theorem ptClose : Statement .ptClose := fun _ => ⟨rfl, .inr (by decide)⟩
theorem htConstruct : Statement .htConstruct := fun _ => ⟨rfl, .inr (by decide)⟩
theorem htIsReady : Statement .htIsReady := fun _ => ⟨rfl, .inr (by decide)⟩
theorem htFetchRaw : Statement .htFetchRaw := fun _ => ⟨rfl, .inr (by decide)⟩
theorem htConvTemperature (hi lo : Byte) : Statement (.htConvTemperature hi lo) := fun _ => ⟨rfl, .inr (by simp [opcode, commandOpcodes])⟩
theorem htConvHumidity (hi lo : Byte) : Statement (.htConvHumidity hi lo) := fun _ => ⟨rfl, .inr (by simp [opcode, commandOpcodes])⟩
theorem htDecodeTemperature (raw : List Byte) : Statement (.htDecodeTemperature raw) := fun _ => ⟨rfl, .inr (by simp [opcode, commandOpcodes])⟩
theorem htDecodeHumidity (raw : List Byte) : Statement (.htDecodeHumidity raw) := fun _ => ⟨rfl, .inr (by simp [opcode, commandOpcodes])⟩
theorem htClose : Statement .htClose := fun _ => ⟨rfl, .inr (by decide)⟩
theorem twos (w : Nat) (v : Int) : Statement (.twos w v) := fun _ => ⟨rfl, .inr (by simp [opcode, commandOpcodes])⟩
theorem mPressure : Statement .mPressure := fun _ => ⟨rfl, .inr (by decide)⟩
theorem mAltitude : Statement .mAltitude := fun _ => ⟨rfl, .inr (by decide)⟩
theorem mTemperaturePt : Statement .mTemperaturePt := fun _ => ⟨rfl, .inr (by decide)⟩
theorem mHumidity : Statement .mHumidity := fun _ => ⟨rfl, .inr (by decide)⟩
theorem mTemperatureHt : Statement .mTemperatureHt := fun _ => ⟨rfl, .inr (by decide)⟩

end Sys2Proof.Laws.OpcodeFirst
end

