-- ==== Sys2Proof/Laws/Run.lean ====
section
/-! SUPPORT. Runs of several steps: one step and then the rest, two runs one after the other, and the three steps of one exchange
(spec/10_state.md R27) as lemmas about `step`. -/

namespace Sys2Proof.Machine

theorem runsTo_zero (s : State) : runsTo 0 s s := rfl

theorem runsTo_step {n : Nat} {s u t : State} (h : step s = .next u) (hr : runsTo n u t) : runsTo (n + 1) s t := by
  unfold runsTo at hr ⊢
  have h' : core.step s = .next u := h
  simp only [Host.Core.run, h']
  exact hr

theorem runsTo_one {s t : State} (h : step s = .next t) : runsTo 1 s t := runsTo_step h (runsTo_zero t)

theorem runsTo_trans {n m : Nat} {s u t : State} (h : runsTo n s u) (h' : runsTo m u t) : runsTo (n + m) s t := by
  induction n generalizing s with
  | zero =>
    have e : s = u := by
      have h0 : (Host.Outcome.next s : Host.Outcome State Fault Refusal) = .next u := h
      injection h0
    subst e
    simpa using h'
  | succ n ih =>
    rw [Nat.add_right_comm]
    unfold runsTo at h
    simp only [Host.Core.run] at h
    cases hs : step s with
    | next v =>
      have hs' : core.step s = .next v := hs
      rw [hs'] at h
      exact runsTo_step hs (ih h)
    | fault f =>
      have hs' : core.step s = .fault f := hs
      rw [hs'] at h
      simp at h
    | refused r =>
      have hs' : core.step s = .refused r := hs
      rw [hs'] at h
      simp at h

/-! ## The steps of one exchange -/

/-- The Transport answers (R27). -/
theorem step_transport {s : State} {p : List Byte} {st : Int} {d : List Byte} {rest : List (Int × List Byte)}
    (hp : s.port = .busy p) (ha : s.io.answers = (st, d) :: rest) :
    step s = .next { s with port := .answered st d, io := { s.io with answers := rest } } := by
  simp [step, hp, transportStep, ha]

/-- The claim port answers (R27). -/
theorem step_claim {s : State} {ok : Bool} {rest : List Bool} (hp : s.port = .idle) (hc : s.claim = .busy)
    (ha : s.io.claims = ok :: rest) :
    step s = .next { s with claim := .answered ok, io := { s.io with claims := rest } } := by
  simp [step, hp, hc, claimStep, ha]

/-- The Sequencer consumes the Transport's answer. -/
theorem step_consume {s t : State} {st : Int} {d : List Byte} {i : Instr} {k : Nat} (hp : s.port = .answered st d)
    (hq : s.seq = .exec i k) (h : answer i k (.transport st d) { s with port := .idle } = some t) : step s = .next t := by
  simp only [hq] at h
  simp [step, hp, consumeTransport, hq, h, orNoPosition]

/-- The Sequencer consumes the claim's answer. -/
theorem step_consumeClaim {s t : State} {ok : Bool} {i : Instr} {k : Nat} (hp : s.port = .idle)
    (hc : s.claim = .answered ok) (hq : s.seq = .exec i k)
    (h : answer i k (.claim ok) { s with claim := .idle } = some t) : step s = .next t := by
  simp only [hp, hq] at h
  simp [step, hp, hc, consumeClaim, hq, h, orNoPosition]

/-- The Sequencer goes on. -/
theorem step_proceed {s t : State} {i : Instr} {k : Nat} (hp : s.port = .idle) (hc : s.claim = .idle)
    (hq : s.seq = .exec i k) (h : proceed i k s = some t) : step s = .next t := by
  simp [step, hp, hc, hq, h, orNoPosition]

/-- One transaction, from Busy to consumed: two steps. -/
theorem runsTo_transaction {s t : State} {p : List Byte} {st : Int} {d : List Byte} {rest : List (Int × List Byte)}
    {i : Instr} {k : Nat} (hp : s.port = .busy p) (hq : s.seq = .exec i k) (ha : s.io.answers = (st, d) :: rest)
    (h : answer i k (.transport st d) { s with port := .idle, io := { s.io with answers := rest } } = some t) :
    runsTo 2 s t :=
  runsTo_step (step_transport hp ha) (runsTo_one (step_consume rfl hq h))

/-- One claim, from Busy to consumed: two steps. -/
theorem runsTo_claim {s t : State} {ok : Bool} {rest : List Bool} {i : Instr} {k : Nat} (hp : s.port = .idle)
    (hc : s.claim = .busy) (hq : s.seq = .exec i k) (ha : s.io.claims = ok :: rest)
    (h : answer i k (.claim ok) { s with claim := .idle, io := { s.io with claims := rest } } = some t) :
    runsTo 2 s t :=
  runsTo_step (step_claim hp hc ha) (runsTo_one (step_consumeClaim hp rfl hq h))

end Sys2Proof.Machine
end

