-- ==== Sys2Proof/Tests/Slice0.lean ====
section
/-! SUPPORT. The model's own tests: ill-formed terms, written-out words, the vectors of spec/95_test_vectors.md one step each, and a
witness for the hypotheses of every obligation. Expected values are the spec's own, from the rule or vector named. -/

open Sys2Proof Sys2Proof.Machine

namespace Sys2Proof.Tests

/-! ## Helpers -/

/-- The result a step leaves on the command port. -/
def resultOf : Host.Outcome State Fault Refusal → Option Result
  | .next s => s.io.result
  | _ => none

/-- The faults recorded after a step. -/
def faultsOf : Host.Outcome State Fault Refusal → List Fault
  | .next s => s.faults
  | _ => []

/-- The refusals recorded after a step. -/
def refusedOf : Host.Outcome State Fault Refusal → List Refusal
  | .next s => s.refused
  | _ => []

/-- The program a step hands to the Transport. -/
def sentBy : Host.Outcome State Fault Refusal → Option (List Byte)
  | .next s => match s.port with
    | .busy p => some p
    | _ => none
  | _ => none

/-- A field of the state after a step. -/
def after {α : Type} (f : State → α) : Host.Outcome State Fault Refusal → Option α
  | .next s => some (f s)
  | _ => none

/-- The block with `CH_P` Open and no driver constructed. -/
def openP : State := { State.reset with chP := .opened }

/-- The block with `CH_H` Open and no driver constructed. -/
def openH : State := { State.reset with chH := .opened }

/-- PT Configured in Barometric. -/
def ptUp (ready : Bool) : State := { openP with pt := ⟨.configured, .barometric, ready⟩ }

/-- HT Configured. -/
def htUp (ready : Bool) : State := { openH with ht := ⟨.configured, ready⟩ }

/-- An operation at exchange `k` with the Transport's answer. -/
def answered (s : State) (i : Instr) (k : Nat) (st : Int) (d : List Byte) : State :=
  { s with seq := .exec i k, port := .answered st d }

/-- A measurement at its loop's head, right after its construction. -/
def loopHead (q : Quantity) (limit : MaxPolls) (answers : List (Int × List Byte)) : State :=
  let s := match q.sensor with
    | .PT => ptUp false
    | .HT => htUp false
  { s with
    cfg := { s.cfg with maxPolls := limit }
    seq := .exec q.op (pollStep q.sensor), io := { s.io with answers := answers } }

/-! ## WellFormed: for each check a term it refuses -/

theorem test_wf_tokens :
    Instr.wf (.tokAddress 127) = true ∧ Instr.wf (.tokAddress 128) = false ∧
    Instr.wf (.tokRead 1) = true ∧ Instr.wf (.tokRead 0) = false ∧ Instr.wf (.tokRead 256) = false ∧
    Instr.wf (.tokWrite (.counted 0 [])) = false ∧
    Instr.wf (.tokWrite (.counted 0 (List.replicate 254 0))) = true ∧
    Instr.wf (.tokWrite (.counted 0 (List.replicate 255 0))) = false := by simp [-List.reduceReplicate, Instr.wf, WriteArg.wf]

theorem test_wf_encoders :
    Instr.wf (.encWrite 256 0 [1]) = false ∧ Instr.wf (.encWrite 0 0 (List.replicate 256 0)) = false ∧
    Instr.wf (.encReadComb 256 0 1) = false ∧ Instr.wf (.encReadComb 0 0 256) = false ∧
    Instr.wf (.encSplitPtr 256 0) = false ∧ Instr.wf (.encSplitRead 256 1) = false ∧
    Instr.wf (.encSplitRead 0 256) = false ∧ Instr.wf (.decResult (-2147483649) []) = false ∧
    Instr.wf (.decResult 2147483648 []) = false ∧ Instr.wf (.decResult (-2147483648) []) = true ∧
    Instr.wf (.decResult 0 (List.replicate 256 0)) = false := by
  simp [-List.reduceReplicate, Instr.wf, byteFits, countFits, statusFits]

theorem test_wf_channels :
    Instr.wf (.chRead .P 256 0 1) = false ∧ Instr.wf (.chRead .P 0 0 256) = false ∧
    Instr.wf (.chWrite .P 256 0 []) = false ∧ Instr.wf (.chWrite .P 0 0 (List.replicate 256 0)) = false ∧
    Instr.wf (.chWrite1 .P 256 0 0) = false ∧ Instr.wf (.pwSetPointer 256 0) = false ∧
    Instr.wf (.pwReadAfterPointer 256 1) = false ∧ Instr.wf (.pwReadAfterPointer 0 256) = false := by
  simp [-List.reduceReplicate, Instr.wf, byteFits, countFits]

theorem test_wf_decoders_and_twos :
    Instr.wf (.ptDecodeAltitude (List.replicate 256 0)) = false ∧
    Instr.wf (.ptDecodePressure (List.replicate 256 0)) = false ∧
    Instr.wf (.ptDecodeTemperature (List.replicate 256 0)) = false ∧
    Instr.wf (.htDecodeTemperature (List.replicate 256 0)) = false ∧
    Instr.wf (.htDecodeHumidity (List.replicate 256 0)) = false ∧
    Instr.wf (.twos 256 0) = false ∧ Instr.wf (.twos 8 (-1)) = false ∧ Instr.wf (.twos 8 256) = false ∧
    Instr.wf (.twos 9 256) = true := by simp [-List.reduceReplicate, Instr.wf, byteFits, countFits, twosFits]

/-! ## Decoding: a word for every constructor, from 30_encoding.md R61, R69, R71 -/

/-- Token values by their bit patterns (R61) with the operands of 40_tokens.md. -/
theorem test_decode_tokens :
    decodeToken .RC true [0b00000000] = some (.tokEnd, []) ∧
    decodeToken .RC true [0b00000001, 0x05] = some (.tokEscape 0x05, []) ∧
    decodeToken .RC true [0b00000010] = some (.tokStart, []) ∧
    decodeToken .RC true [0b00000011] = some (.tokStop, []) ∧
    decodeToken .RC true [0b00000100, 0x60] = some (.tokAddress 0x60, []) ∧
    decodeToken .RC true [0b00000101] = some (.tokFlags, []) ∧
    decodeToken .SR true [0b00000110, 0x04] = some (.tokRead 4, []) ∧
    decodeToken .SP true [0b00000111, 0x01, 0x13] = some (.tokWrite (.pointer 0x13), []) ∧
    decodeToken .W true [0b00000111, 0x01, 0x02, 0x13, 0x07] = some (.tokWrite (.counted 0x13 [0x07]), []) ∧
    decodeToken .W false [0b00000111, 0x02, 0x13, 0x07] = some (.tokWrite (.counted 0x13 [0x07]), []) := by decide

/-- R67, R41, R65: values that are no token, and operands outside their ranges. -/
theorem test_decode_tokens_illegal :
    decodeToken .RC true [0x08] = none ∧ decodeToken .RC true [0x04, 0x80] = none ∧
    decodeToken .SR true [0x06, 0x00] = none ∧ decodeToken .SR true [0x07, 0x01, 0x00] = none := by decide

theorem test_decode_encoders :
    decodeFrame [0b00000001, 0x60, 0x13, 0x01, 0x07] = .ok (.encWrite 0x60 0x13 [0x07]) ∧
    decodeFrame [0b00000010, 0x60, 0x00, 0x01] = .ok (.encReadComb 0x60 0x00 1) ∧
    decodeFrame [0b00000011, 0x40, 0x00] = .ok (.encSplitPtr 0x40 0x00) ∧
    decodeFrame [0b00000100, 0x40, 0x04] = .ok (.encSplitRead 0x40 4) ∧
    decodeFrame [0b00000101, 0x80, 0x00, 0x00, 0x00, 0x00] = .ok (.decResult (-2147483648) []) := by decide

theorem test_decode_channels :
    decodeFrame [0b00010000, 0x01] = .ok (.chOpen .H) ∧
    decodeFrame [0b00010001, 0x00, 0x60, 0x01, 0x05] = .ok (.chRead .P 0x60 0x01 5) ∧
    decodeFrame [0b00010010, 0x01, 0x40, 0x02, 0x02, 0x10, 0x00] = .ok (.chWrite .H 0x40 0x02 [0x10, 0x00]) ∧
    decodeFrame [0b00010011, 0x00, 0x60, 0x13, 0x07] = .ok (.chWrite1 .P 0x60 0x13 0x07) ∧
    decodeFrame [0b00010100, 0x00] = .ok (.chClose .P) ∧
    decodeFrame [0b00010101, 0x40, 0x00] = .ok (.pwSetPointer 0x40 0x00) ∧
    decodeFrame [0b00010110, 0x40, 0x04] = .ok (.pwReadAfterPointer 0x40 4) := by decide

theorem test_decode_pressure :
    decodeFrame [0b00100000, 0x01] = .ok (.ptConstruct .altitude) ∧
    decodeFrame [0b00100000, 0x02] = .ok (.ptConstruct .barometric) ∧
    decodeFrame [0b00100001] = .ok .ptSelectAltitude ∧ decodeFrame [0b00100010] = .ok .ptSelectBarometric ∧
    decodeFrame [0b00100011] = .ok .ptIsReady ∧ decodeFrame [0b00100100] = .ok .ptFetchRaw ∧
    decodeFrame [0b00100101, 0x01, 0xAA] = .ok (.ptDecodeAltitude [0xAA]) ∧
    decodeFrame [0b00100110, 0x01, 0xAA] = .ok (.ptDecodePressure [0xAA]) ∧
    decodeFrame [0b00100111, 0x00] = .ok (.ptDecodeTemperature []) ∧ decodeFrame [0b00101000] = .ok .ptClose := by decide

theorem test_decode_humidity :
    decodeFrame [0b00110000] = .ok .htConstruct ∧ decodeFrame [0b00110001] = .ok .htIsReady ∧
    decodeFrame [0b00110010] = .ok .htFetchRaw ∧
    decodeFrame [0b00110011, 0x66, 0x67] = .ok (.htConvTemperature 0x66 0x67) ∧
    decodeFrame [0b00110100, 0x80, 0x01] = .ok (.htConvHumidity 0x80 0x01) ∧
    decodeFrame [0b00110101, 0x02, 0x01, 0x02] = .ok (.htDecodeTemperature [0x01, 0x02]) ∧
    decodeFrame [0b00110110, 0x02, 0x01, 0x02] = .ok (.htDecodeHumidity [0x01, 0x02]) ∧
    decodeFrame [0b00110111] = .ok .htClose := by decide

theorem test_decode_twos_and_measurements :
    decodeFrame [0b01000000, 0x01, 0x01] = .ok (.twos 1 1) ∧
    decodeFrame [0b01000000, 0x09, 0x01, 0x00] = .ok (.twos 9 256) ∧
    decodeFrame [0b01010000] = .ok .mPressure ∧ decodeFrame [0b01010001] = .ok .mAltitude ∧
    decodeFrame [0b01010010] = .ok .mTemperaturePt ∧ decodeFrame [0b01010011] = .ok .mHumidity ∧
    decodeFrame [0b01010100] = .ok .mTemperatureHt := by decide

/-- R72: each way a frame is illegal. -/
theorem test_decode_illegal_frames :
    decodeFrame [0x60] = .error .unknownOpcode ∧ decodeFrame [0x00] = .error .unknownOpcode ∧
    decodeFrame [0x10, 0x02] = .error .badOperand ∧ decodeFrame [0x20, 0x00] = .error .badOperand ∧
    decodeFrame [0x20, 0x03] = .error .badOperand ∧ decodeFrame [0x25, 0x02, 0x00] = .error .badOperand ∧
    decodeFrame [0x25, 0x01, 0x00, 0x00] = .error .badOperand ∧ decodeFrame [0x11, 0x00, 0x60] = .error .badOperand ∧
    decodeFrame [0x50, 0x00] = .error .badOperand ∧ decodeFrame [] = .error .badOperand := by decide

/-- Table words in the host's numbering: the further operand bytes are zero. -/
theorem test_table_words :
    decodeTableWord 8 0x10 = some (.chOpen .P) ∧ decodeTableWord 8 0x54 = some .mTemperatureHt ∧
    decodeTableWord 8 0x07 = none ∧ tableFrame 8 0x11 = [0x11, 0, 0, 0, 0] := by decide

/-- The word placed by `withFetchWord` is the one the next step runs. -/
theorem test_withFetchWord :
    after State.seq (step (State.reset.withFetchWord 8 0x53)) = some (.exec .mHumidity 0) := by decide

/-! ## Tokens (V-TOK, 40_tokens.md) -/

theorem test_tokens_emit :
    after State.asm (exec (.tokAddress 0x60) State.reset) = some [0x04, 0x60] ∧
    after State.asm (exec (.tokWrite (.pointer 0x00)) State.reset) = some [0x07, 0x01, 0x00] ∧
    after State.asm (exec (.tokWrite (.counted 0x13 [0x07])) State.reset) = some [0x07, 0x01, 0x02, 0x13, 0x07] ∧
    after State.asm (exec (.tokRead 2) State.reset) = some [0x06, 0x02] ∧
    after State.asm (exec .tokStart State.reset) = some [0x02] ∧ after State.asm (exec .tokStop State.reset) = some [0x03] ∧
    after State.asm (exec (.tokEscape 0x02) State.reset) = some [0x01, 0x02] := by decide

theorem test_tokEnd : resultOf (exec .tokEnd { State.reset with asm := [0x04, 0x60] }) =
    some (.program [0x04, 0x60, 0x00]) := by decide

/-- R73's own example: the program as text. -/
theorem test_programText :
    programText true .RC [0x04, 0x60, 0x02, 0x07, 0x01, 0x00, 0x02, 0x06, 0x02, 0x03, 0x00] =
      some "[ADDRESS, 0x60, START, WRITE, ESCAPE, 0x00, START, READ, 0x02, STOP, END]" := by decide

/-- R73's own example: the operation as text. -/
theorem test_operationText : operationText (.chRead .P 0x60 0x00 1) = "CH_READ CH_P, 0x60, 0x00, 1" := by decide

/-- R74. -/
theorem test_pseudo :
    expandPseudo (.chWrite1 .P 0x60 0x13 0x07) = [.chWrite .P 0x60 0x13 [0x07]] ∧
    encodeReadCall .split 0x40 0x00 4 = [.encSplitPtr 0x40 0x00, .encSplitRead 0x40 4] := by decide

/-! ## Encoder and decoder (V-ENC, V-DEC) -/

theorem test_encWrite :
    resultOf (exec (.encWrite 0x7F 0xFF [0x00, 0x01, 0x02, 0x03]) State.reset) =
      some (.program [0x04, 0x7F, 0x02, 0x07, 0x01, 0x05, 0xFF, 0x00, 0x01, 0x02, 0x03, 0x03, 0x00]) ∧
    resultOf (exec (.encWrite 0x60 0x13 [0x07])
      { State.reset with cfg := { Config.ref with escapeWriteLength := false } }) =
        some (.program [0x04, 0x60, 0x02, 0x07, 0x02, 0x13, 0x07, 0x03, 0x00]) := by decide

theorem test_encWrite_refusals :
    refusedOf (exec (.encWrite 0x60 0x00 []) State.reset) = [.badLength] ∧
    refusedOf (exec (.encWrite 0x80 0x00 []) State.reset) = [.badAddress] := by decide

theorem test_encReadComb :
    resultOf (exec (.encReadComb 0x00 0xFF 254) State.reset) =
      some (.program [0x04, 0x00, 0x02, 0x07, 0x01, 0xFF, 0x02, 0x06, 0xFF, 0x03, 0x00]) ∧
    refusedOf (exec (.encReadComb 0x60 0x00 0) State.reset) = [.badLength] ∧
    refusedOf (exec (.encReadComb 0x60 0x00 255) State.reset) = [.badLength] := by decide

theorem test_encSplitPtr :
    resultOf (exec (.encSplitPtr 0x7F 0x07) State.reset) = some (.program [0x04, 0x7F, 0x02, 0x07, 0x01, 0x07, 0x03, 0x00]) ∧
    refusedOf (exec (.encSplitPtr 0x80 0x00) State.reset) = [.badAddress] := by decide

theorem test_encSplitRead :
    resultOf (exec (.encSplitRead 0x40 255) State.reset) = some (.program [0x04, 0x40, 0x02, 0x06, 0xFF, 0x03, 0x00]) ∧
    refusedOf (exec (.encSplitRead 0x40 0) State.reset) = [.badLength] ∧
    refusedOf (exec (.encSplitRead 0x40 256) State.reset) = [.badLength] := by decide

theorem test_decResult :
    resultOf (exec (.decResult 0 []) State.reset) = some (.transport (.ok 0 [])) ∧
    resultOf (exec (.decResult 7 [0x01]) State.reset) = some (.transport (.ok 7 [0x01])) ∧
    resultOf (exec (.decResult (-1) [0x08]) State.reset) = some (.transport (.terr (-1))) := by decide

/-! ## Channels (V-CH) -/

theorem test_chOpen :
    after State.claim (exec (.chOpen .P) State.reset) = some .busy ∧
    resultOf (exec (.chOpen .P) openP) = some .ok ∧
    faultsOf (exec (.chOpen .H) openP) = [.concurrentChannel .H] := by decide

theorem test_chOpen_answers :
    after (fun s => (s.chP, s.io.result)) (step { State.reset with seq := .exec (.chOpen .P) 0, claim := .answered true }) =
      some (.opened, some .ok) ∧
    after (fun s => (s.chP, s.io.result)) (step { State.reset with seq := .exec (.chOpen .P) 0, claim := .answered false }) =
      some (.closed, some (.busUnavailable .P .openBus)) := by decide

theorem test_chRead :
    faultsOf (exec (.chRead .P 0x60 0x00 1) State.reset) = [.channelNotOpen .P 0x11] ∧
    refusedOf (exec (.chRead .P 0x80 0x00 1) openP) = [.badAddress] ∧
    faultsOf (exec (.chRead .P 0x60 0x00 1) (ptUp false)) = [.channelOwned .P 0x11] := by decide

theorem test_chRead_answers :
    resultOf (step (answered openP (.chRead .P 0x60 0x00 1) 0 (-1) [0x08])) = some (.transport (.terr (-1))) ∧
    resultOf (step (answered openP (.chRead .P 0x60 0x01 5) 0 3 [0x01, 0x02, 0x03])) =
      some (.transport (.ok 3 [0x01, 0x02, 0x03])) := by decide

theorem test_chWrite : sentBy (exec (.chWrite .P 0x60 0x13 [0x07]) openP) =
    some [0x04, 0x60, 0x02, 0x07, 0x01, 0x02, 0x13, 0x07, 0x03, 0x00] := by decide

theorem test_chWrite1 :
    sentBy (exec (.chWrite1 .P 0x60 0x13 0x07) openP) =
      some [0x04, 0x60, 0x02, 0x07, 0x01, 0x02, 0x13, 0x07, 0x03, 0x00] := by decide

theorem test_chClose :
    after (fun s => (s.chP, s.io.trace)) (exec (.chClose .P) openP) = some (.closed, [.release]) ∧
    faultsOf (exec (.chClose .P) State.reset) = [.doubleClose .P] ∧
    faultsOf (exec (.chClose .H) (htUp false)) = [.channelOwned .H 0x14] := by decide

theorem test_pwSetPointer :
    resultOf (step (answered openH (.pwSetPointer 0x40 0x00) 0 (-3) [0x55])) = some (.status (-3)) ∧
    faultsOf (exec (.pwSetPointer 0x40 0x00) State.reset) = [.channelNotOpen .H 0x15] := by decide

theorem test_pwReadAfterPointer :
    sentBy (exec (.pwReadAfterPointer 0x40 4) openH) = some [0x04, 0x40, 0x02, 0x06, 0x04, 0x03, 0x00] ∧
    resultOf (step (answered openH (.pwReadAfterPointer 0x40 4) 0 4 [0x66, 0x66, 0x80, 0x00])) =
      some (.transport (.ok 4 [0x66, 0x66, 0x80, 0x00])) := by decide

/-! ## Pressure driver (V-TWOS, V-PT, V-PTRDY, V-SRC-6, V-DRV) -/

theorem test_twos :
    resultOf (exec (.twos 1 1) State.reset) = some (.integer (-1)) ∧
    resultOf (exec (.twos 8 0x80) State.reset) = some (.integer (-128)) ∧
    resultOf (exec (.twos 24 0x7FFFFF) State.reset) = some (.integer 8388607) ∧
    resultOf (exec (.twos 24 0x800000) State.reset) = some (.integer (-8388608)) ∧
    resultOf (exec (.twos 24 0xFFFF00) State.reset) = some (.integer (-256)) := by decide

theorem test_twos_refusals :
    refusedOf (exec (.twos 0 0) State.reset) = [.badWidth] ∧ refusedOf (exec (.twos 8 256) State.reset) = [.badOperand] ∧
    refusedOf (exec (.twos 8 (-1)) State.reset) = [.badOperand] := by decide

theorem test_ptConstruct :
    faultsOf (exec (.ptConstruct .altitude) (ptUp false)) = [.driverState .PT 0x20 .configured] ∧
    sentBy (exec (.ptConstruct .barometric) openP) =
      some [0x04, 0x60, 0x02, 0x07, 0x01, 0x02, 0x13, 0x07, 0x03, 0x00] := by decide

theorem test_ptSelectAltitude :
    sentBy (exec .ptSelectAltitude (ptUp true)) = some [0x04, 0x60, 0x02, 0x07, 0x01, 0x02, 0x26, 0xB8, 0x03, 0x00] ∧
    after State.pt (step (answered (ptUp true) .ptSelectAltitude 1 (-1) [])) = some ⟨.configured, .altitude, false⟩ := by decide

theorem test_ptSelectBarometric :
    sentBy (exec .ptSelectBarometric (ptUp true)) = some [0x04, 0x60, 0x02, 0x07, 0x01, 0x02, 0x26, 0x38, 0x03, 0x00] ∧
    sentBy (step { ptUp true with seq := .exec .ptSelectBarometric 1 }) =
      some [0x04, 0x60, 0x02, 0x07, 0x01, 0x02, 0x26, 0x39, 0x03, 0x00] := by decide

theorem test_ptIsReady :
    sentBy (exec .ptIsReady (ptUp false)) = some [0x04, 0x60, 0x02, 0x07, 0x01, 0x00, 0x02, 0x06, 0x02, 0x03, 0x00] ∧
    faultsOf (exec .ptIsReady State.reset) = [.driverState .PT 0x23 .unconfigured] := by decide

theorem test_ptIsReady_answers :
    resultOf (step (answered (ptUp false) .ptIsReady 0 1 [0x08])) = some (.ready true) ∧
    resultOf (step (answered (ptUp false) .ptIsReady 0 2 [0x0F, 0x00])) = some (.ready true) ∧
    resultOf (step (answered (ptUp false) .ptIsReady 0 1 [0xF7])) = some (.ready false) ∧
    resultOf (step (answered (ptUp false) .ptIsReady 0 0 [])) = some (.ready false) ∧
    resultOf (step (answered (ptUp true) .ptIsReady 0 (-1) [0x08])) = some (.ready false) := by decide

theorem test_ptFetchRaw :
    resultOf (exec .ptFetchRaw (ptUp false)) = some (.fetch .notReady) ∧
    sentBy (exec .ptFetchRaw (ptUp true)) = some [0x04, 0x60, 0x02, 0x07, 0x01, 0x01, 0x02, 0x06, 0x06, 0x03, 0x00] := by decide

theorem test_ptDecodeAltitude :
    resultOf (exec (.ptDecodeAltitude [0x80, 0x00, 0x00, 0x00, 0x00, 0x00]) State.reset) =
      some (.value (.avail (mkRat (-32768) 1))) ∧
    resultOf (exec (.ptDecodeAltitude [0xFF, 0xFF, 0xFF, 0x00, 0x00, 0x00]) State.reset) =
      some (.value (.avail (mkRat (-1) 256))) ∧
    resultOf (exec (.ptDecodeAltitude [0x01, 0x86, 0xA0, 0x00, 0x00, 0xFF]) State.reset) =
      some (.value (.avail (mkRat 3125 8))) := by decide

theorem test_ptDecodePressure :
    resultOf (exec (.ptDecodePressure [0x01, 0x86, 0xA0, 0x00, 0x00, 0x00]) State.reset) =
      some (.value (.avail (mkRat 3125 2))) ∧
    resultOf (exec (.ptDecodePressure [0x80, 0x00, 0x00, 0x00, 0x00, 0x00]) State.reset) =
      some (.value (.avail (mkRat 131072 1))) ∧
    resultOf (exec (.ptDecodePressure [0x01, 0x86, 0xA0, 0x00, 0x00]) State.reset) = some (.value .unavailable) := by decide

theorem test_ptDecodeTemperature :
    resultOf (exec (.ptDecodeTemperature [0x00, 0x01, 0x00, 0x1A, 0x80, 0x00]) State.reset) =
      some (.value (.avail (mkRat 53 2))) ∧
    resultOf (exec (.ptDecodeTemperature [0x00, 0x00, 0x40, 0x80, 0x00, 0x00]) State.reset) =
      some (.value (.avail (mkRat 128 1))) := by decide

theorem test_ptClose :
    after (fun s => (s.chP, s.pt)) (exec .ptClose (ptUp true)) = some (.closed, ⟨.closed, .none, false⟩) ∧
    faultsOf (exec .ptClose { State.reset with pt := ⟨.closed, .none, false⟩ }) = [.driverState .PT 0x28 .closed] := by decide

/-! ## Humidity driver (V-HT, V-HT-TIES, V-HTRDY, V-DRV) -/

theorem test_htConstruct :
    sentBy (exec .htConstruct openH) = some [0x04, 0x40, 0x02, 0x07, 0x01, 0x03, 0x02, 0x10, 0x00, 0x03, 0x00] ∧
    sentBy (step { openH with seq := .exec .htConstruct 2 }) = some [0x04, 0x40, 0x02, 0x07, 0x01, 0x00, 0x03, 0x00] := by decide

theorem test_htIsReady :
    resultOf (step (answered (htUp false) .htIsReady 0 0 [])) = some (.ready true) ∧
    resultOf (step (answered (htUp true) .htIsReady 0 (-1) [])) = some (.ready false) ∧
    sentBy (exec .htIsReady (htUp false)) = some [0x04, 0x40, 0x02, 0x06, 0x04, 0x03, 0x00] := by decide

theorem test_htFetchRaw :
    resultOf (exec .htFetchRaw (htUp false)) = some (.fetch .notReady) ∧
    sentBy (exec .htFetchRaw (htUp true)) = some [0x04, 0x40, 0x02, 0x06, 0x04, 0x03, 0x00] := by decide

theorem test_htConvTemperature :
    resultOf (exec (.htConvTemperature 0x40 0x00) State.reset) = some (.number (mkRat 12 10)) ∧
    resultOf (exec (.htConvTemperature 0xC0 0x00) State.reset) = some (.number (mkRat 838 10)) ∧
    resultOf (exec (.htConvTemperature 0x00 0x00) State.reset) = some (.number (mkRat (-40) 1)) ∧
    resultOf (exec (.htConvTemperature 0xFF 0xFF) State.reset) = some (.number (mkRat 125 1)) ∧
    resultOf (exec (.htConvTemperature 0x27 0x10) State.reset) = some (.number (mkRat (-148) 10)) := by decide

theorem test_htConvHumidity :
    resultOf (exec (.htConvHumidity 0x10 0x00) State.reset) = some (.number (mkRat 62 10)) ∧
    resultOf (exec (.htConvHumidity 0x30 0x00) State.reset) = some (.number (mkRat 188 10)) ∧
    resultOf (exec (.htConvHumidity 0xF0 0x00) State.reset) = some (.number (mkRat 938 10)) ∧
    resultOf (exec (.htConvHumidity 0x61 0xA8) State.reset) = some (.number (mkRat 381 10)) := by decide

theorem test_htDecodeTemperature :
    resultOf (exec (.htDecodeTemperature [0x66, 0x66, 0x80, 0x00]) State.reset) =
      some (.value (.avail (mkRat 26 1))) ∧
    resultOf (exec (.htDecodeTemperature [0x66, 0x66, 0x80, 0x00, 0x00]) State.reset) =
      some (.value .unavailable) := by decide

theorem test_htDecodeHumidity :
    resultOf (exec (.htDecodeHumidity [0x40, 0x00, 0x10, 0x00]) State.reset) =
      some (.value (.avail (mkRat 62 10))) ∧
    resultOf (exec (.htDecodeHumidity []) State.reset) = some (.value .unavailable) := by decide

theorem test_htClose :
    after (fun s => (s.chH, s.ht)) (exec .htClose (htUp true)) = some (.closed, ⟨.closed, false⟩) ∧
    faultsOf (exec .htClose State.reset) = [.driverState .HT 0x37 .unconfigured] := by decide

/-! ## Measurements: single steps of P1, P2, P4, P7, P9 -/

theorem test_mPressure :
    after (fun s => (s.io.result, s.chP, s.pt, s.m)) (step (answered
      { ptUp false with m := ⟨.fetch, 0⟩ } .mPressure 5 6 [0x01, 0x86, 0xA0, 0x00, 0x00, 0x00])) =
        some (some (.measure (.done (mkRat 3125 2))), .closed, ⟨.closed, .none, false⟩, ⟨.close, 0⟩) ∧
    after (fun s => (s.faults, s.m.phase, s.pt.st)) (exec .mPressure openH) =
      some ([.concurrentChannel .P], .construct, .unconfigured) := by decide

theorem test_mAltitude : resultOf (step (answered
    { ptUp false with m := ⟨.fetch, 0⟩ } .mAltitude 5 6 [0xFF, 0xFF, 0x00, 0x00, 0x00, 0x00])) =
      some (.measure (.done (mkRat (-1) 1))) := by decide

theorem test_mTemperaturePt : resultOf (step (answered
    { ptUp true with m := ⟨.poll, 1⟩, cfg := { Config.ref with maxPolls := .bound 2 } } .mTemperaturePt 4 (-5) [])) =
      some (.measure (.error .timeout .PT .poll)) := by decide

theorem test_mHumidity :
    after (fun s => (s.m, s.seq, s.ht.ready)) (step (answered
      { htUp false with m := ⟨.poll, 0⟩ } .mHumidity 3 (-1) [])) = some (⟨.poll, 1⟩, .exec .mHumidity 3, false) ∧
    after (fun s => (s.m, s.seq)) (step { htUp false with m := ⟨.poll, 1⟩, seq := .exec .mHumidity 3 }) =
      some (⟨.sleep, 1⟩, .exec .mHumidity 3) := by decide

theorem test_mTemperatureHt : after (fun s => (s.io.result, s.chH, s.ht.st, s.m.phase))
    (step { State.reset with seq := .exec .mTemperatureHt 0, claim := .answered false }) =
      some (some (.measure (.error .busUnavailable .HT .openBus)), .closed, .unconfigured, .construct) := by decide

/-! ## The agents and reset -/

theorem test_step_refuses_a_malformed_frame :
    refusedOf (step (State.reset.withFrame [0x60])) = [.unknownOpcode] ∧
    refusedOf (step (State.reset.withFrame [0x20, 0x03])) = [.badOperand] := by decide

theorem test_reset_event : resetEvent { ptUp true with faults := [.doubleClose .P], refused := [.badWidth] } = State.reset := by
  decide

/-! ## Witnesses: for each obligation with hypotheses, a state and operands that meet them, clause by clause -/

theorem witness_CommandFrameRoundTrip : Instr.isToken (.chRead .H 255 0xFF 255) = false ∧
    Instr.wf (.chRead .H 255 0xFF 255) = true := by decide

theorem witness_DecodedFrameIsTheOperationsFrame : decodeFrame [0x05, 0x7F, 0xFF, 0xFF, 0xFF, 0x00] =
    .ok (.decResult 2147483647 []) := by decide

/-- One token of each operand form, in a shape that has it. -/
theorem witness_TokenRoundTrip :
    (Instr.isToken (.tokAddress 127) = true ∧ Instr.wf (.tokAddress 127) = true) ∧
    (Instr.isToken (.tokRead 255) = true ∧ Instr.wf (.tokRead 255) = true) ∧
    (Instr.wf (.tokWrite (.pointer 0xFF)) = true ∧ (Shape.SP = .RC ∨ Shape.SP = .SP)) ∧
    (Instr.wf (.tokWrite (.counted 0x00 [0xFF])) = true ∧ Shape.W = .W) := by decide

/-- A cut, and a frame with more bytes. -/
theorem witness_CutOrOverlongFramesAreBadOperand : Instr.isToken (.twos 255 0) = false ∧ Instr.wf (.twos 255 0) = true ∧
    33 < (encode true (.twos 255 0)).length ∧ (encode true (.twos 255 0)).length = 34 := by decide

theorem witness_StepBeginsTheDecodedOperation : (State.reset.withFrame [0x50]).quiet ∧
    (State.reset.withFrame [0x50]).io.frames = [0x50] :: [] ∧ decodeFrame [0x50] = .ok .mPressure :=
  ⟨⟨rfl, rfl, rfl⟩, rfl, by decide⟩

theorem witness_StepRecordsAMalformedFrame :
    ((State.reset.withFrame [0xFF]).quiet ∧ (State.reset.withFrame [0xFF]).io.frames = [0xFF] :: [] ∧
      decodeFrame [0xFF] = .error .unknownOpcode) ∧
    ((State.reset.withFrame [0x20, 0x00]).quiet ∧ (State.reset.withFrame [0x20, 0x00]).io.frames = [0x20, 0x00] :: [] ∧
      decodeFrame [0x20, 0x00] = .error .badOperand) :=
  ⟨⟨⟨rfl, rfl, rfl⟩, rfl, by decide⟩, ⟨rfl, rfl, rfl⟩, rfl, by decide⟩

/-- One program of each shape, at the edges of R65, in both layouts of R68. -/
theorem witness_WellFormedProgramsReadAsTokens :
    programWellFormed true .W [0x04, 0x7F, 0x02, 0x07, 0x01, 0x02, 0xFF, 0x00, 0x03, 0x00] = true ∧
    programWellFormed false .W [0x04, 0x00, 0x02, 0x07, 0x02, 0x00, 0xFF, 0x03, 0x00] = true ∧
    programWellFormed true .RC [0x04, 0x60, 0x02, 0x07, 0x01, 0x00, 0x02, 0x06, 0xFF, 0x03, 0x00] = true ∧
    programWellFormed true .SP [0x04, 0x40, 0x02, 0x07, 0x01, 0x07, 0x03, 0x00] = true ∧
    programWellFormed true .SR [0x04, 0x40, 0x02, 0x06, 0xFF, 0x03, 0x00] = true := by decide

theorem witness_EscapedWriteCanCollideWithCombinedRead : 2 ≤ (2 : Byte).toNat ∧ 1 ≤ [(0 : Byte)].length ∧
    [(0 : Byte)].length ≤ 254 := by decide

/-- Each range clause at its ends. -/
theorem witness_TokensAreEmittedWithTheirOperands :
    127 < 128 ∧ 128 ≤ 128 ∧ (1 ≤ 255 ∧ 255 ≤ 255) ∧ (0 = 0 ∨ 255 < 0) ∧ (256 = 0 ∨ 255 < 256) ∧
    (1 ≤ (List.replicate 254 (0 : Byte)).length ∧ (List.replicate 254 (0 : Byte)).length ≤ 254) ∧
    254 < (List.replicate 255 (0 : Byte)).length := by simp [-List.reduceReplicate]

theorem witness_TokenSequencesAssembleTheEncodersPrograms : 127 < 128 ∧ State.reset.asm = [] ∧
    (1 ≤ [(0xFF : Byte)].length ∧ [(0xFF : Byte)].length ≤ 254) ∧ (1 ≤ 254 ∧ 254 ≤ 254) ∧ (1 ≤ 255 ∧ 255 ≤ 255) := by decide

/-- Owned; open already; the other channel open; and both answers of the claim. -/
theorem witness_ChOpenClaimsTheBusOnce :
    (ptUp false).owner .P = .configured ∧
    (openP.owner .P ≠ .configured ∧ openP.chan .P = .opened) ∧
    (openP.owner .H ≠ .configured ∧ openP.chan .H = .closed ∧ openP.chan (otherChannel .H) = .opened) ∧
    (State.reset.quiet ∧ State.reset.owner .P ≠ .configured ∧ State.reset.bothClosed) ∧
    { State.reset.io with claims := [true] }.claims = true :: [] ∧
    { State.reset.io with claims := [false] }.claims = false :: [] :=
  ⟨rfl, by decide, by decide, ⟨⟨rfl, rfl, rfl⟩, by decide, rfl, rfl⟩, rfl, rfl⟩

theorem witness_ChReadReturnsTheAnswerUnchanged :
    let s : State := { openP with io := { openP.io with answers := [(-1, [0x08])] } }
    s.quiet ∧ 127 < 128 ∧ 1 ≤ 254 ∧ 254 ≤ 254 ∧ s.owner .P ≠ .configured ∧ s.chan .P = .opened ∧
      s.io.answers = (-1, [0x08]) :: [] :=
  ⟨⟨rfl, rfl, rfl⟩, by decide, by decide, by decide, by decide, rfl, rfl⟩

theorem witness_ChWriteSendsThePayload :
    let s : State := { openH with io := { openH.io with answers := [(0, [])] } }
    s.quiet ∧ 127 < 128 ∧ 1 ≤ [(0x07 : Byte)].length ∧ [(0x07 : Byte)].length ≤ 254 ∧ s.owner .H ≠ .configured ∧
      s.chan .H = .opened ∧ s.io.answers = (0, []) :: [] :=
  ⟨⟨rfl, rfl, rfl⟩, by decide, by decide, by decide, by decide, rfl, rfl⟩

theorem witness_ChWrite1IsChWriteOfOneByte :
    let s : State := { openP with io := { openP.io with answers := [(-1, [])] } }
    s.quiet ∧ 127 < 128 ∧ s.owner .P ≠ .configured ∧ s.chan .P = .opened ∧ s.io.answers = (-1, []) :: [] :=
  ⟨⟨rfl, rfl, rfl⟩, by decide, by decide, rfl, rfl⟩

/-- The operation taken from the command port stands in the sequencer position (10_state.md R28), and its answer is consumed. -/
theorem test_chWrite1_position :
    after State.seq (exec (.chWrite1 .P 0x60 0x13 0x07) openP) = some (.exec (.chWrite1 .P 0x60 0x13 0x07) 0) ∧
    after (fun s => s.io.result) (step (answered openP (.chWrite1 .P 0x60 0x13 0x07) 0 2 [])) =
      some (some (.transport (.ok 2 []))) := by decide

theorem witness_ChCloseReleasesOrFaults :
    (ptUp false).owner .P = .configured ∧ (openP.owner .P ≠ .configured ∧ openP.chan .P = .opened) ∧
    (State.reset.owner .H ≠ .configured ∧ State.reset.chan .H = .closed) := by decide

theorem witness_SetPointerReturnsTheStatusAlone :
    let s : State := { openH with io := { openH.io with answers := [(-3, [0x55])] } }
    s.quiet ∧ 127 < 128 ∧ s.ht.st ≠ .configured ∧ s.chH = .opened ∧ s.io.answers = (-3, [0x55]) :: [] :=
  ⟨⟨rfl, rfl, rfl⟩, by decide, by decide, rfl, rfl⟩

theorem witness_ReadAfterPointerAsksForExactlyL :
    let s : State := { openH with io := { openH.io with answers := [(4, [0x66, 0x66, 0x80, 0x00])] } }
    s.quiet ∧ 127 < 128 ∧ 1 ≤ 255 ∧ 255 ≤ 255 ∧ s.ht.st ≠ .configured ∧ s.chH = .opened ∧
      s.io.answers = (4, [0x66, 0x66, 0x80, 0x00]) :: [] :=
  ⟨⟨rfl, rfl, rfl⟩, by decide, by decide, by decide, by decide, rfl, rfl⟩

/-- Each of the four checks fails first somewhere: 128; 127 with length 0 or 255; owned; Closed. -/
theorem witness_ChannelChecksComeInPriorityOrder :
    128 ≤ 128 ∧ (127 < 128 ∧ ¬ (1 ≤ 0 ∧ 0 ≤ 254) ∧ ¬ (1 ≤ 255 ∧ 255 ≤ 254) ∧ ¬ (1 ≤ 256 ∧ 256 ≤ 255)) ∧
    (127 < 128 ∧ (1 ≤ 254 ∧ 254 ≤ 254) ∧ (ptUp false).owner .P = .configured) ∧
    (127 < 128 ∧ (1 ≤ 255 ∧ 255 ≤ 255) ∧ State.reset.owner .H ≠ .configured ∧ State.reset.chan .H = .closed) := by decide

/-- Width 0; width 1 below and above its range; width 1 at both its values. -/
theorem witness_TwosReadsTheSignBit :
    0 < 1 ∧ (1 ≤ 1 ∧ ((-1 : Int) < 0 ∨ 2 ^ 1 ≤ (-1 : Int))) ∧ (1 ≤ 1 ∧ ((2 : Int) < 0 ∨ 2 ^ 1 ≤ (2 : Int))) ∧
    (1 ≤ 1 ∧ 0 ≤ (0 : Int) ∧ (0 : Int) < 2 ^ 1) ∧ (1 ≤ 1 ∧ 0 ≤ (1 : Int) ∧ (1 : Int) < 2 ^ 1) := by decide

/-- From a Closed channel with the claim granted, and on a channel already open. -/
theorem witness_PtConstructConfiguresInThreeWrites :
    let io : Io := ⟨[], none, [true], [(0, []), (-1, []), (0, [])], []⟩
    let s : State := { State.reset with io := io }
    let t : State := { openP with io := io }
    (s.quiet ∧ s.pt.st ≠ .configured ∧ s.io.answers = (0, []) :: (-1, []) :: (0, []) :: [] ∧ s.bothClosed ∧
      s.io.claims = true :: []) ∧
    (t.quiet ∧ t.pt.st ≠ .configured ∧ t.io.answers = (0, []) :: (-1, []) :: (0, []) :: [] ∧ t.chP = .opened) :=
  ⟨⟨⟨rfl, rfl, rfl⟩, by decide, rfl, ⟨rfl, rfl⟩, rfl⟩, ⟨rfl, rfl, rfl⟩, by decide, rfl, rfl⟩

theorem witness_ConstructionsThatFailChangeNoDriver :
    (ptUp false).pt.st = .configured ∧ (htUp false).ht.st = .configured ∧
    (openH.pt.st ≠ .configured ∧ openH.chP = .closed ∧ openH.chH = .opened) ∧
    (openP.ht.st ≠ .configured ∧ openP.chH = .closed ∧ openP.chP = .opened) ∧
    (State.reset.quiet ∧ State.reset.bothClosed ∧ State.reset.pt.st ≠ .configured ∧ State.reset.ht.st ≠ .configured) ∧
    { State.reset.io with claims := [false] }.claims = false :: [] :=
  ⟨rfl, rfl, by decide, by decide, ⟨⟨rfl, rfl, rfl⟩, ⟨rfl, rfl⟩, by decide, by decide⟩, rfl⟩

/-- Both selections, guarded and allowed. -/
theorem witness_ModeSelectionIssuesBothWrites :
    let s : State := { ptUp true with io := ⟨[], none, [], [(0, []), (-1, [])], []⟩ }
    (Instr.ptSelectAltitude = .ptSelectAltitude ∧ (0xB8 : Byte) = s.cfg.ptCtrlAltOs ∧ (0xB9 : Byte) = s.cfg.ptCtrlAltRun) ∧
    (Instr.ptSelectBarometric = .ptSelectBarometric ∧ (0x38 : Byte) = s.cfg.ptCtrlBarOs ∧ (0x39 : Byte) = s.cfg.ptCtrlBarRun) ∧
    State.reset.pt.st ≠ .configured ∧
    (s.quiet ∧ s.pt.st = .configured ∧ s.chP = .opened ∧ s.io.answers = (0, []) :: (-1, []) :: []) :=
  ⟨by decide, by decide, by decide, ⟨rfl, rfl, rfl⟩, rfl, rfl, rfl⟩

theorem witness_PtReadinessIsStatusBitThree :
    let s : State := { ptUp false with io := ⟨[], none, [], [(0, [0x08])], []⟩ }
    State.reset.pt.st ≠ .configured ∧
    (s.quiet ∧ s.pt.st = .configured ∧ s.chP = .opened ∧ s.io.answers = (0, [0x08]) :: []) :=
  ⟨by decide, ⟨rfl, rfl, rfl⟩, rfl, rfl, rfl⟩

theorem witness_PtFetchNeedsAndClearsTheLatch :
    let s : State := { ptUp true with io := ⟨[], none, [], [(-1, [0x08])], []⟩ }
    State.reset.pt.st ≠ .configured ∧ ((ptUp false).pt.st = .configured ∧ (ptUp false).pt.ready = false) ∧
    (s.quiet ∧ s.pt.st = .configured ∧ s.pt.ready = true ∧ s.chP = .opened ∧ s.io.answers = (-1, [0x08]) :: []) :=
  ⟨by decide, by decide, ⟨rfl, rfl, rfl⟩, rfl, rfl, rfl, rfl⟩

theorem witness_PtDecodersFollowTheirFormulas : [(0x01 : Byte), 0x86, 0xA0, 0x00, 0x00].length ≠ 6 := by decide

/-- The ends of the altitude's range, as multiples of 1/256 and as rationals. -/
theorem witness_AltitudeRoundTrip :
    (-(2 ^ 23) ≤ (-8388608 : Int) ∧ (-8388608 : Int) < 2 ^ 23) ∧ (-(2 ^ 23) ≤ (8388607 : Int) ∧ (8388607 : Int) < 2 ^ 23) ∧
    ((-32768 : Rat) ≤ -32768 ∧ (-32768 : Rat) < 32768) := by norm_num

theorem witness_DriverCloseReleasesTheBus :
    State.reset.pt.st ≠ .configured ∧ ((ptUp true).pt.st = .configured ∧ (ptUp true).chP = .opened) ∧
    State.reset.ht.st ≠ .configured ∧ ((htUp true).ht.st = .configured ∧ (htUp true).chH = .opened) := by decide

theorem witness_HtConstructSetsUpThenPoints :
    let io : Io := ⟨[], none, [true], [(0, []), (-1, [])], []⟩
    let s : State := { State.reset with io := io }
    let t : State := { openH with io := io }
    (s.quiet ∧ s.ht.st ≠ .configured ∧ s.io.answers = (0, []) :: (-1, []) :: [] ∧ s.bothClosed ∧ s.io.claims = true :: []) ∧
    (t.quiet ∧ t.ht.st ≠ .configured ∧ t.io.answers = (0, []) :: (-1, []) :: [] ∧ t.chH = .opened) :=
  ⟨⟨⟨rfl, rfl, rfl⟩, by decide, rfl, ⟨rfl, rfl⟩, rfl⟩, ⟨rfl, rfl, rfl⟩, by decide, rfl, rfl⟩

theorem witness_HtReadinessIsTheStatusSign :
    let s : State := { htUp false with io := ⟨[], none, [], [(0, [])], []⟩ }
    State.reset.ht.st ≠ .configured ∧
    (s.quiet ∧ s.cfg.wf = true ∧ s.ht.st = .configured ∧ s.chH = .opened ∧ s.io.answers = (0, []) :: []) :=
  ⟨by decide, ⟨rfl, rfl, rfl⟩, by decide, rfl, rfl, rfl⟩

theorem witness_HtFetchNeedsAndClearsTheLatch :
    let s : State := { htUp true with io := ⟨[], none, [], [(-1, [])], []⟩ }
    State.reset.ht.st ≠ .configured ∧ ((htUp false).ht.st = .configured ∧ (htUp false).ht.ready = false) ∧
    (s.quiet ∧ s.ht.st = .configured ∧ s.ht.ready = true ∧ s.chH = .opened ∧ s.io.answers = (-1, []) :: []) :=
  ⟨by decide, by decide, ⟨rfl, rfl, rfl⟩, rfl, rfl, rfl, rfl⟩

theorem witness_HtRawDecodersConvertTheirHalves : [(0x66 : Byte), 0x66, 0x80, 0x00, 0x00].length ≠ 4 := by decide

theorem witness_FailedClaimEndsAMeasurementWithBusUnavailable :
    let s : State := { State.reset with io := ⟨[], none, [false], [], []⟩ }
    s.quiet ∧ s.bothClosed ∧ ¬ driverConfigured .temperatureHt s ∧ s.io.claims = false :: [] :=
  ⟨⟨rfl, rfl, rfl⟩, ⟨rfl, rfl⟩, by simp [driverConfigured, Quantity.sensor, State.reset], rfl⟩

/-- Already Configured; and 95_test_vectors.md P9. -/
theorem witness_MeasurementsInheritTheConstructionFaults :
    driverConfigured .pressure (ptUp false) ∧
    (¬ driverConfigured .pressure openH ∧ openH.chan .P = .closed ∧ openH.chan (otherChannel .P) = .opened) :=
  ⟨rfl, by simp [driverConfigured, Quantity.sensor, openH, State.reset], rfl, rfl⟩

/-- A measurement at its loop's head meets the invariant, in either driver, after its construction or a Sleep. -/
theorem head_inv (q : Quantity) (limit : MaxPolls) (answers : List (Int × List Byte)) (m : Facade) (h : limit ≠ .bound 0)
    (hx : pollsExhausted limit m.fails = false) (hm : m.phase ≠ .close) :
    ({ loopHead q limit answers with m := m } : State).Inv := by
  have hw : Config.wf { Config.ref with maxPolls := limit } = true := by simp [Config.wf, Config.ref, h]
  cases q <;> exact {
    config := hw
    oneOpen := by simp [loopHead, Quantity.sensor, ptUp, htUp, openP, openH, State.reset]
    ptOpen := by simp [loopHead, Quantity.sensor, ptUp, htUp, openP, openH, State.reset]
    htOpen := by simp [loopHead, Quantity.sensor, ptUp, htUp, openP, openH, State.reset]
    ptMode := by simp [loopHead, Quantity.sensor, ptUp, htUp, openP, openH, State.reset]
    ptReady := by simp [loopHead, Quantity.sensor, ptUp, htUp, openP, openH, State.reset]
    htReady := by simp [loopHead, Quantity.sensor, ptUp, htUp, openP, openH, State.reset]
    faultSet := List.nodup_nil
    refusedSet := List.nodup_nil
    busyProgram := nofun
    placed := .inr (.inl ⟨rfl, rfl, hx, .inl ⟨⟨rfl, rfl⟩, hm⟩⟩) }

theorem loopHead_inv (q : Quantity) (limit : MaxPolls) (answers : List (Int × List Byte)) (h : limit ≠ .bound 0) :
    (loopHead q limit answers).Inv := by
  have hx : pollsExhausted limit 0 = false := by
    cases limit with
    | unbounded => rfl
    | bound k => cases k with
      | zero => exact absurd rfl h
      | succ k => simp [pollsExhausted]
  have hi := head_inv q limit answers ⟨.construct, 0⟩ h hx nofun
  cases q <;> exact hi

/-- The fixture of 95_test_vectors.md P1; its construction on a channel already open; and its two reads at the loop's head, after a
Sleep. -/
theorem witness_PtMeasurementsReturnTheDecodedValue :
    let data : List Byte := [0x01, 0x86, 0xA0, 0x00, 0x00, 0x00]
    let reads : List (Int × List Byte) := [(1, [0x08]), (6, data)]
    let s : State := { State.reset with io := ⟨[], none, [true], [(0, []), (0, []), (0, [])] ++ reads, []⟩ }
    let u : State := { openP with io := ⟨[], none, [], [(0, []), (0, []), (0, [])], []⟩ }
    let t : State := { loopHead .pressure (.bound 2) reads with m := ⟨.sleep, 1⟩ }
    (u.quiet ∧ u.chP = .opened ∧ u.pt.st ≠ .configured ∧ u.io.answers = (0, []) :: (0, []) :: (0, []) :: []) ∧
    (0 ≤ (1 : Int) ∧ (0x08 : Byte).toNat.testBit 3 = true ∧ 0 ≤ (6 : Int) ∧ ptPressure data = .avail (mkRat 3125 2)) ∧
    (s.quiet ∧ s.bothClosed ∧ s.pt.st ≠ .configured ∧ s.io.claims = true :: [] ∧
      s.io.answers = (0, []) :: (0, []) :: (0, []) :: (1, 0x08 :: []) :: (6, data) :: []) ∧
    (t.Inv ∧ t.seq = .exec .mPressure (pollStep .PT) ∧ t.atRest ∧ t.m.phase = .sleep ∧
      t.io.answers = (1, 0x08 :: []) :: (6, data) :: []) :=
  ⟨⟨⟨rfl, rfl, rfl⟩, rfl, by decide, rfl⟩,
    ⟨by decide, by decide, by decide, by decide⟩, ⟨⟨rfl, rfl, rfl⟩, ⟨rfl, rfl⟩, by decide, rfl, rfl⟩,
    ⟨head_inv _ _ _ ⟨.sleep, 1⟩ (by decide) (by decide) nofun, rfl, ⟨rfl, rfl⟩, rfl, rfl⟩⟩

/-- Answers of 95_test_vectors.md P8; a construction on a channel already open; and the answers of P2 at the loop's head, after its
failed attempt and its Sleep. -/
theorem witness_HtMeasurementsReturnTheDecodedValue :
    let data : List Byte := [0x40, 0x00, 0x10, 0x00]
    let s : State := { State.reset with io := ⟨[], none, [true], [(0, []), (0, []), (0, []), (4, data)], []⟩ }
    let data' : List Byte := [0x66, 0x66, 0x80, 0x00]
    let u : State := { openH with io := ⟨[], none, [], [(0, []), (0, [])], []⟩ }
    let t : State := { loopHead .humidity .unbounded [(4, data'), (4, data')] with m := ⟨.sleep, 1⟩ }
    (u.quiet ∧ u.chH = .opened ∧ u.ht.st ≠ .configured ∧ u.io.answers = (0, []) :: (0, []) :: []) ∧
    (0 ≤ (0 : Int) ∧ 0 ≤ (4 : Int) ∧ htRawTemperature data = .avail (mkRat 12 10) ∧
      htRawHumidity data = .avail (mkRat 62 10) ∧ htRawHumidity data' = .avail 50) ∧
    (s.quiet ∧ s.bothClosed ∧ s.ht.st ≠ .configured ∧ s.cfg.wf = true ∧ s.io.claims = true :: [] ∧
      s.io.answers = (0, []) :: (0, []) :: (0, []) :: (4, data) :: []) ∧
    (t.Inv ∧ t.seq = .exec .mHumidity (pollStep .HT) ∧ t.atRest ∧ t.m.phase = .sleep ∧
      t.io.answers = (4, data') :: (4, data') :: []) :=
  ⟨⟨⟨rfl, rfl, rfl⟩, rfl, by decide, rfl⟩,
    ⟨by decide, by decide, by decide, by decide, by decide⟩,
    ⟨⟨rfl, rfl, rfl⟩, ⟨rfl, rfl⟩, by decide, by decide, rfl, rfl⟩,
    ⟨head_inv _ _ _ ⟨.sleep, 1⟩ (by decide) (by decide) nofun, rfl, ⟨rfl, rfl⟩, rfl, rfl⟩⟩

/-- A failed readiness test; and a true one with a fetch that fails in transport, or with a malformed reading. -/
theorem witness_FailedAttemptCountsAndSleeps :
    let s := loopHead .temperaturePt (.bound 2) [(1, [0x00])]
    let t := loopHead .humidity .unbounded [(0, []), (-1, [])]
    (s.Inv ∧ s.seq = .exec Quantity.temperaturePt.op (pollStep .PT) ∧ s.atRest ∧ s.m.phase = .construct ∧
      pollsExhausted s.cfg.maxPolls (s.m.fails + 1) = false ∧ s.io.answers = (1, [0x00]) :: [] ∧
      ptReadiness (decodeResult 1 [0x00]) = false) ∧
    (t.Inv ∧ t.seq = .exec Quantity.humidity.op (pollStep .HT) ∧ t.atRest ∧ t.m.phase = .construct ∧
      pollsExhausted t.cfg.maxPolls (t.m.fails + 1) = false ∧ t.io.answers = (0, []) :: (-1, []) :: [] ∧
      htReadiness (decodeResult 0 []) = true ∧ (-1 : Int) < 0 ∧ htRawHumidity [0x66] = .unavailable) :=
  ⟨⟨loopHead_inv _ _ _ (by decide), rfl, ⟨rfl, rfl⟩, rfl, by decide, rfl, by decide⟩,
    ⟨loopHead_inv _ _ _ (by decide), rfl, ⟨rfl, rfl⟩, rfl, by decide, rfl, by decide, by decide, by decide⟩⟩

theorem witness_LastFailedAttemptTimesOut :
    let s := loopHead .altitude (.bound 1) [(1, [0xF7])]
    let t := loopHead .temperatureHt (.bound 1) [(0, []), (4, [0x66])]
    (s.Inv ∧ s.seq = .exec Quantity.altitude.op (pollStep .PT) ∧ s.atRest ∧ s.m.phase = .construct ∧
      pollsExhausted s.cfg.maxPolls (s.m.fails + 1) = true ∧ s.io.answers = (1, [0xF7]) :: [] ∧
      ptReadiness (decodeResult 1 [0xF7]) = false) ∧
    (t.Inv ∧ t.seq = .exec Quantity.temperatureHt.op (pollStep .HT) ∧ t.atRest ∧ t.m.phase = .construct ∧
      pollsExhausted t.cfg.maxPolls (t.m.fails + 1) = true ∧ t.io.answers = (0, []) :: (4, [0x66]) :: [] ∧
      htReadiness (decodeResult 0 []) = true ∧ htRawTemperature [0x66] = .unavailable) :=
  ⟨⟨loopHead_inv _ _ _ (by decide), rfl, ⟨rfl, rfl⟩, rfl, by decide, rfl, by decide⟩,
    ⟨loopHead_inv _ _ _ (by decide), rfl, ⟨rfl, rfl⟩, rfl, by decide, rfl, by decide, by decide⟩⟩

theorem witness_BoundedPollingEndsTheMeasurement :
    let s := loopHead .pressure (.bound 1) [(1, [0x00]), (0, [])]
    s.Inv ∧ s.cfg.maxPolls = .bound 1 ∧ s.seq = .exec Quantity.pressure.op (pollStep .PT) ∧ s.atRest ∧
      s.m.phase = .construct ∧ 2 * (1 - s.m.fails) ≤ s.io.answers.length :=
  ⟨loopHead_inv _ _ _ (by decide), rfl, rfl, ⟨rfl, rfl⟩, rfl, by decide⟩

/-- A measurement whose claim fails ends at the step that consumes the answer. -/
theorem witness_MeasurementsCloseOnEveryExit :
    let s : State := { State.reset with seq := .exec Quantity.pressure.op 0, claim := .answered false }
    s.Inv ∧ s.seq = .exec Quantity.pressure.op 0 ∧ after State.seq (step s) = some .idle := by
  refine ⟨?_, rfl, by decide⟩
  exact {
    config := by decide
    oneOpen := by decide
    ptOpen := by decide
    htOpen := by decide
    ptMode := by decide
    ptReady := by decide
    htReady := by decide
    faultSet := List.nodup_nil
    refusedSet := List.nodup_nil
    busyProgram := nofun
    placed := .inl ⟨by decide, .inl ⟨rfl, ⟨rfl, by decide⟩, by decide, rfl, rfl⟩, rfl⟩ }

theorem witness_ResetGivesEveryFieldItsValue : resetEvent State.reset = resetEvent State.reset ∧ State.reset = State.reset :=
  ⟨rfl, rfl⟩

theorem witness_ResetMeetsTheInvariant : State.reset.cfg.wf = true := by decide

/-- A step of a state that meets the invariant, from which the next one follows. -/
theorem witness_StepKeepsTheInvariant : (loopHead .humidity .unbounded []).Inv ∧
    sentBy (step (loopHead .humidity .unbounded [])) = some [0x04, 0x40, 0x02, 0x06, 0x04, 0x03, 0x00] :=
  ⟨loopHead_inv _ _ _ (by decide), by decide⟩

theorem witness_StepNeverStopsUnderInvariant : (loopHead .altitude (.bound 3) []).Inv := loopHead_inv _ _ _ (by decide)

/-- A step that records a second fault. -/
theorem witness_FaultsAndRefusalsAreSticky :
    let s := { State.reset with faults := [.channelNotOpen .P 0x11] }.withFrame [0x14, 0x00]
    faultsOf (step s) = [.channelNotOpen .P 0x11, .doubleClose .P] := by decide

theorem witness_NoStepWritesAParameter : after State.cfg (step (State.reset.withFrame [0x50])) = some Config.ref := by decide

theorem witness_EveryProgramSentIsOneOfTheFourShapes :
    sentBy (step (openP.withFrame [0x11, 0x00, 0x60, 0x00, 0x01])) =
      some [0x04, 0x60, 0x02, 0x07, 0x01, 0x00, 0x02, 0x06, 0x02, 0x03, 0x00] := by decide

/-- Each way a channel changes. -/
theorem witness_ChannelsChangeOnlyByClaimAndRelease :
    (State.reset.chP = .closed ∧
      after State.chP (step { State.reset with seq := .exec (.chOpen .P) 0, claim := .answered true }) = some .opened) ∧
    (openP.chP = .opened ∧ after State.chP (step (openP.withFrame [0x14, 0x00])) = some .closed) := by decide

theorem witness_LatchesAreSetOnlyByAReadyAnswer :
    ((ptUp false).pt.ready = false ∧
      after (fun s => s.pt.ready) (step (answered (ptUp false) .ptIsReady 0 1 [0x08])) = some true) ∧
    ((htUp false).ht.ready = false ∧
      after (fun s => s.ht.ready) (step (answered (htUp false) .htIsReady 0 0 [])) = some true) := by decide

/-- Each port busy, with an answer to come and with none; and the block waiting for the Caller. -/
theorem witness_PortsAnswerOrWait :
    let s : State := { openP with port := .busy [0x00], io := { openP.io with answers := [(0, [])] } }
    let t : State := { State.reset with claim := .busy, io := { openP.io with claims := [true] } }
    (s.port = .busy [0x00] ∧ s.io.answers = (0, []) :: []) ∧
    { openP with port := .busy [0x00] }.io.answers = [] ∧
    (t.port = .idle ∧ t.claim = .busy ∧ t.io.claims = true :: []) ∧
    { State.reset with claim := .busy }.io.claims = [] ∧ (State.reset.quiet ∧ State.reset.io.frames = []) :=
  ⟨⟨rfl, rfl⟩, rfl, ⟨rfl, rfl, rfl⟩, rfl, ⟨rfl, rfl, rfl⟩, rfl⟩

theorem witness_PureOperationsDependOnTheirOperandsAlone :
    opcode (.htDecodeHumidity []) = 0x36 ∧ Instr.isToken (.htDecodeHumidity []) = false ∧
    State.reset.cfg.escapeWriteLength = true := by decide

end Sys2Proof.Tests
end

/-! ## The four shapes are well formed

An encoder that accepts its operands returns a program the checker of 40_tokens.md R88 accepts. -/

namespace Sys2Proof.Machine

theorem encodeWrite_wellFormed {e : Bool} {a : Nat} {r : Byte} {p prog : List Byte} (h : encodeWrite e a r p = .ok prog) :
    programWellFormed e .W prog = true := by
  obtain ⟨ha, h1, h2, rfl⟩ := encodeWrite_ok h
  have hlen : (byte (p.length + 1)).toNat = p.length + 1 := byte_toNat (by omega)
  have haddr : (byte a).toNat = a := byte_toNat (by omega)
  cases e <;> simp [programWellFormed, shapeW, elementAt, hlen, haddr, ha, h1]

theorem encodeReadComb_wellFormed (e : Bool) {a : Nat} {r : Byte} {l : Nat} {prog : List Byte}
    (h : encodeReadComb a r l = .ok prog) : programWellFormed e .RC prog = true := by
  obtain ⟨ha, h1, h2, rfl⟩ := encodeReadComb_ok h
  have hlen : (byte (l + 1)).toNat = l + 1 := byte_toNat (by omega)
  have haddr : (byte a).toNat = a := byte_toNat (by omega)
  simp [programWellFormed, shapeRC, elementAt, hlen, haddr, ha, h1]

theorem encodeSplitPtr_wellFormed (e : Bool) {a : Nat} {r : Byte} {prog : List Byte} (h : encodeSplitPtr a r = .ok prog) :
    programWellFormed e .SP prog = true := by
  obtain ⟨ha, rfl⟩ := encodeSplitPtr_ok h
  have haddr : (byte a).toNat = a := byte_toNat (by omega)
  simp [programWellFormed, shapeSP, elementAt, haddr, ha]

theorem encodeSplitRead_wellFormed (e : Bool) {a l : Nat} {prog : List Byte} (h : encodeSplitRead a l = .ok prog) :
    programWellFormed e .SR prog = true := by
  obtain ⟨ha, h1, h2, rfl⟩ := encodeSplitRead_ok h
  have hlen : (byte l).toNat = l := byte_toNat (by omega)
  have haddr : (byte a).toNat = a := byte_toNat (by omega)
  simp [programWellFormed, shapeSR, elementAt, hlen, haddr, ha, h1]

end Sys2Proof.Machine

/-! ## The invariant without the sequencer position

`State.Sound` is the part of `State.Inv` that speaks neither of the ports nor of the sequencer position. It is kept by every
single update, also in the middle of a step, while the position fits again only at the step's end. -/

namespace Sys2Proof.Machine

/-- The parameters, channels, drivers and sticky sets are as `State.Inv` says. -/
structure State.Sound (s : State) : Prop where
  config : s.cfg.wf = true
  oneOpen : ¬ (s.chP = .opened ∧ s.chH = .opened)
  ptOpen : s.pt.st = .configured → s.chP = .opened
  htOpen : s.ht.st = .configured → s.chH = .opened
  ptMode : s.pt.st ≠ .configured → s.pt.mode = .none
  ptReady : s.pt.ready = true → s.pt.st = .configured
  htReady : s.ht.ready = true → s.ht.st = .configured
  faultSet : s.faults.Nodup
  refusedSet : s.refused.Nodup

theorem State.Inv.sound {s : State} (h : s.Inv) : s.Sound where
  config := h.config
  oneOpen := h.oneOpen
  ptOpen := h.ptOpen
  htOpen := h.htOpen
  ptMode := h.ptMode
  ptReady := h.ptReady
  htReady := h.htReady
  faultSet := h.faultSet
  refusedSet := h.refusedSet

theorem State.atRest_setChan {s : State} {ch : Channel} {v : ChannelSt} : (s.setChan ch v).atRest ↔ s.atRest := by
  simp [State.atRest]

/-- The fields `State.Sound` reads. -/
def State.soundPart (s : State) : Config × ChannelSt × ChannelSt × PtDriver × HtDriver × List Fault × List Refusal :=
  (s.cfg, s.chP, s.chH, s.pt, s.ht, s.faults, s.refused)

namespace State.Sound

variable {s t : State}

/-- An update of other fields keeps a state sound. -/
theorem of_soundPart (h : s.Sound) (e : t.soundPart = s.soundPart) : t.Sound := by
  simp only [soundPart, Prod.mk.injEq] at e
  obtain ⟨hcfg, hchP, hchH, hpt, hht, hfaults, hrefused⟩ := e
  constructor <;> simp only [hcfg, hchP, hchH, hpt, hht, hfaults, hrefused]
  exacts [h.config, h.oneOpen, h.ptOpen, h.htOpen, h.ptMode, h.ptReady, h.htReady, h.faultSet, h.refusedSet]

theorem setPhase (h : s.Sound) (p : Phase) : (s.setPhase p).Sound := h.of_soundPart rfl

theorem setFails (h : s.Sound) (n : Nat) : (s.setFails n).Sound := h.of_soundPart rfl

theorem release (h : s.Sound) : s.release.Sound := h.of_soundPart rfl

theorem setPt (h : s.Sound) {v : PtDriver} (hopen : v.st = .configured → s.chP = .opened)
    (hmode : v.st ≠ .configured → v.mode = .none) (hready : v.ready = true → v.st = .configured) : (s.setPt v).Sound :=
  { h with ptOpen := hopen, ptMode := hmode, ptReady := hready }

theorem setHt (h : s.Sound) {v : HtDriver} (hopen : v.st = .configured → s.chH = .opened)
    (hready : v.ready = true → v.st = .configured) : (s.setHt v).Sound :=
  { h with htOpen := hopen, htReady := hready }

theorem setPtReady (h : s.Sound) {b : Bool} (hb : b = true → s.pt.st = .configured) : (s.setPtReady b).Sound :=
  h.setPt h.ptOpen h.ptMode hb

theorem setHtReady (h : s.Sound) {b : Bool} (hb : b = true → s.ht.st = .configured) : (s.setHtReady b).Sound :=
  h.setHt h.htOpen hb

theorem ptTested (h : s.Sound) (hc : s.pt.st = .configured) (st : Int) (d : List Byte) : (ptIsReadyEnd st d s).Sound :=
  h.setPtReady fun _ => hc

theorem htTested (h : s.Sound) (hc : s.ht.st = .configured) (st : Int) (d : List Byte) : (htIsReadyEnd st d s).Sound :=
  h.setHtReady fun _ => hc

theorem clearPtReady (h : s.Sound) : (s.setPtReady false).Sound := h.setPtReady nofun

theorem clearHtReady (h : s.Sound) : (s.setHtReady false).Sound := h.setHtReady nofun

theorem selectEnd (h : s.Sound) (m : Mode) (hc : s.pt.st = .configured) : (selectEnd m s).Sound :=
  h.setPt h.ptOpen (fun hn => absurd hc hn) nofun

theorem fault (h : s.Sound) (f : Fault) : (s.fault f).Sound := { h with faultSet := insertNew_nodup f h.faultSet }

theorem refuse (h : s.Sound) (f : Refusal) : (s.refuse f).Sound := { h with refusedSet := insertNew_nodup f h.refusedSet }

/-- A claim answered ok opens a channel only where both were Closed (10_state.md R23). -/
theorem setChan_opened (h : s.Sound) (hb : s.bothClosed) (ch : Channel) : (s.setChan ch .opened).Sound := by
  obtain ⟨hP, hH⟩ := hb
  cases ch with
  | P => exact { h with oneOpen := by simp [hH], ptOpen := fun _ => rfl }
  | H => exact { h with oneOpen := by simp [hP], htOpen := fun _ => rfl }

/-- A channel can be closed once its driver is no longer Configured. -/
theorem setChan_closed (h : s.Sound) {ch : Channel} (ho : s.owner ch ≠ .configured) : (s.setChan ch .closed).Sound := by
  cases ch with
  | P => exact { h with oneOpen := by simp, ptOpen := fun hc => absurd hc ho }
  | H => exact { h with oneOpen := by simp, htOpen := fun hc => absurd hc ho }

/-! ### Back to the invariant -/

/-- With the Transport port idle only the position has to fit. -/
theorem inv (h : s.Sound) (hp : s.port = .idle) (hplaced : s.wellPlaced) : s.Inv :=
  { h with busyProgram := by simp [hp], placed := hplaced }

theorem inv_of_quiet (h : s.Sound) (hq : s.quiet) : s.Inv := by
  obtain ⟨hseq, hport, hclaim⟩ := hq
  exact h.inv hport (by simp [wellPlaced, hseq, atRest, hport, hclaim])

theorem inv_finish (h : s.Sound) (hr : s.atRest) (r : Result) : (s.finish r).Inv :=
  inv_of_quiet (h.of_soundPart rfl) ⟨rfl, hr⟩

theorem inv_fault (h : s.Sound) (hr : s.atRest) (f : Fault) : (s.fault f).Inv := (h.fault f).inv_of_quiet ⟨rfl, hr⟩

theorem inv_refuse (h : s.Sound) (hr : s.atRest) (f : Refusal) : (s.refuse f).Inv := (h.refuse f).inv_of_quiet ⟨rfl, hr⟩

theorem inv_moveTo (h : s.Sound) (hp : s.port = .idle) {op : Instr} {k : Nat} (hpos : position op k (s.moveTo op k)) :
    (s.moveTo op k).Inv :=
  inv (h.of_soundPart rfl) hp hpos

theorem inv_claimBus (h : s.Sound) (hp : s.port = .idle) {op : Instr} {k : Nat} (hpos : position op k (s.claimBus op k)) :
    (s.claimBus op k).Inv :=
  inv (h.of_soundPart rfl) hp hpos

theorem inv_transact (h : s.Sound) {op : Instr} {k : Nat} {p : List Byte}
    (hw : ∃ sh, programWellFormed s.cfg.escapeWriteLength sh p = true) (hpos : position op k (s.transact op k p)) :
    (s.transact op k p).Inv :=
  { h with
    busyProgram := by
      intro p' hp'
      obtain rfl : p = p' := by simpa using hp'
      exact hw
    placed := hpos }

end State.Sound

end Sys2Proof.Machine

/-! ## The shared operations keep the invariant

Each lemma starts from a sound state with both ports idle and says that the operation's outcome meets the invariant, given that
the position it moves to fits. -/

namespace Sys2Proof.Machine

variable {s t : State} {op : Instr} {k : Nat}

namespace State.Sound

/-! ### Channels -/

theorem inv_returnProgram (h : s.Sound) (hr : s.atRest) (prog : Except Refusal (List Byte)) : (s.returnProgram prog).Inv := by
  cases prog with
  | error e => exact h.inv_refuse hr e
  | ok p => exact h.inv_finish hr (.program p)

theorem inv_channelTransact (h : s.Sound) (hr : s.atRest) {direct : Bool} {ch : Channel} {code : Byte}
    {prog : Except Refusal (List Byte)}
    (hw : ∀ p, prog = .ok p → ∃ sh, programWellFormed s.cfg.escapeWriteLength sh p = true)
    (hpos : (direct = true → s.owner ch ≠ .configured) → s.chan ch = .opened → ∀ p, position op k (s.transact op k p)) :
    (channelTransact op k direct ch code prog s).Inv := by
  obtain ⟨e, -, heq⟩ | ⟨p, -, -, -, heq⟩ | ⟨p, hp, hd, hc, heq⟩ | ⟨p, -, -, -, heq⟩ :=
    channelTransact_cases op k direct ch code prog s <;> rw [heq]
  · exact h.inv_refuse hr e
  · exact h.inv_fault hr _
  · exact h.inv_transact (hw p hp) (hpos hd hc p)
  · exact h.inv_fault hr _

theorem inv_readBegin (h : s.Sound) (hr : s.atRest) {direct : Bool} {ch : Channel} {a : Nat} {r : Byte} {l : Nat}
    (hpos : (direct = true → s.owner ch ≠ .configured) → s.chan ch = .opened → ∀ p, position op k (s.transact op k p)) :
    (readBegin op k direct ch a r l s).Inv :=
  h.inv_channelTransact hr (fun _ hp => ⟨.RC, encodeReadComb_wellFormed _ hp⟩) hpos

theorem inv_writeBegin (h : s.Sound) (hr : s.atRest) {direct : Bool} {ch : Channel} {a : Nat} {r : Byte} {p : List Byte}
    (hpos : (direct = true → s.owner ch ≠ .configured) → s.chan ch = .opened → ∀ p, position op k (s.transact op k p)) :
    (writeBegin op k direct ch a r p s).Inv :=
  h.inv_channelTransact hr (fun _ hp => ⟨.W, encodeWrite_wellFormed hp⟩) hpos

theorem inv_setPointerBegin (h : s.Sound) (hr : s.atRest) {direct : Bool} {a : Nat} {r : Byte}
    (hpos : (direct = true → s.ht.st ≠ .configured) → s.chH = .opened → ∀ p, position op k (s.transact op k p)) :
    (setPointerBegin op k direct a r s).Inv :=
  h.inv_channelTransact hr (fun _ hp => ⟨.SP, encodeSplitPtr_wellFormed _ hp⟩) hpos

theorem inv_readAfterPointerBegin (h : s.Sound) (hr : s.atRest) {direct : Bool} {a l : Nat}
    (hpos : (direct = true → s.ht.st ≠ .configured) → s.chH = .opened → ∀ p, position op k (s.transact op k p)) :
    (readAfterPointerBegin op k direct a l s).Inv :=
  h.inv_channelTransact hr (fun _ hp => ⟨.SR, encodeSplitRead_wellFormed _ hp⟩) hpos

theorem inv_openBegin (h : s.Sound) (hr : s.atRest) {ch : Channel} {already : State → State}
    (halready : s.chan ch = .opened → (already s).Inv) (hpos : s.bothClosed → position op k (s.claimBus op k)) :
    (openBegin op k ch already s).Inv := by
  obtain ⟨hc, heq⟩ | ⟨-, -, heq⟩ | ⟨hc, hc', heq⟩ := openBegin_cases op k ch already s <;> rw [heq]
  · exact halready hc
  · exact h.inv_fault hr _
  · have hb : s.bothClosed := by cases ch <;> simp_all [bothClosed]
    exact h.inv_claimBus hr.1 (hpos hb)

theorem inv_openAnswer (h : s.Sound) (hb : s.bothClosed) {ch : Channel} {ok : Bool} {opened failed : State → State}
    (hopened : (s.setChan ch .opened).Sound → (opened (s.setChan ch .opened)).Inv) (hfailed : (failed s).Inv) :
    (openAnswer ch ok opened failed s).Inv := by
  cases ok with
  | true => exact hopened (h.setChan_opened hb ch)
  | false => exact hfailed

theorem inv_closeBegin (h : s.Sound) (hr : s.atRest) {ch : Channel} {closed : State → State}
    (hclosed : (closed (s.release.setChan ch .closed)).Inv) : (closeBegin ch closed s).Inv := by
  obtain ⟨-, heq⟩ | ⟨-, heq⟩ := closeBegin_cases ch closed s <;> rw [heq]
  · exact hclosed
  · exact h.inv_fault hr _

/-! ### Drivers -/

theorem inv_ptGuard (h : s.Sound) (hr : s.atRest) {code : Byte} {body : State → State}
    (hbody : s.pt.st = .configured → (body s).Inv) : (ptGuard code body s).Inv := by
  obtain ⟨hc, heq⟩ | ⟨-, heq⟩ := ptGuard_cases code body s <;> rw [heq]
  · exact hbody hc
  · exact h.inv_fault hr _

theorem inv_htGuard (h : s.Sound) (hr : s.atRest) {code : Byte} {body : State → State}
    (hbody : s.ht.st = .configured → (body s).Inv) : (htGuard code body s).Inv := by
  obtain ⟨hc, heq⟩ | ⟨-, heq⟩ := htGuard_cases code body s <;> rw [heq]
  · exact hbody hc
  · exact h.inv_fault hr _

theorem inv_ptWrite (h : s.Sound) (hr : s.atRest) {r b : Byte}
    (hpos : s.chP = .opened → ∀ p, position op k (s.transact op k p)) : (ptWrite op k r b s).Inv :=
  h.inv_writeBegin hr fun _ => hpos

/-- The two writes of a close: the channel is Closed, and the driver too, its mode and latch cleared (43_pressure.md R120). -/
theorem closePt (h : s.Sound) : ((s.release.setChan .P .closed).setPt ⟨.closed, .none, false⟩).Sound :=
  State.Sound.of_soundPart (s := (s.setPt ⟨.closed, .none, false⟩).setChan .P .closed)
    ((h.setPt (by simp) (by simp) (by simp)).setChan_closed (by simp)) rfl

/-- As for PT (44_humidity.md R139). -/
theorem closeHt (h : s.Sound) : ((s.release.setChan .H .closed).setHt ⟨.closed, false⟩).Sound :=
  State.Sound.of_soundPart (s := (s.setHt ⟨.closed, false⟩).setChan .H .closed)
    ((h.setHt (by simp) (by simp)).setChan_closed (by simp)) rfl

theorem inv_ptCloseWith (h : s.Sound) (hr : s.atRest) (r : Result) : (ptCloseWith r s).Inv :=
  h.inv_ptGuard hr fun _ => h.inv_closeBegin hr (h.closePt.inv_finish hr r)

theorem inv_htCloseWith (h : s.Sound) (hr : s.atRest) (r : Result) : (htCloseWith r s).Inv :=
  h.inv_htGuard hr fun _ => h.inv_closeBegin hr (h.closeHt.inv_finish hr r)

theorem inv_ptIsReadyBegin (h : s.Sound) (hr : s.atRest)
    (hpos : s.pt.st = .configured → ∀ p, position op k (s.transact op k p)) : (ptIsReadyBegin op k s).Inv :=
  h.inv_ptGuard hr fun hc => h.inv_readBegin hr fun _ _ => hpos hc

theorem inv_htIsReadyBegin (h : s.Sound) (hr : s.atRest)
    (hpos : s.ht.st = .configured → ∀ p, position op k (s.transact op k p)) : (htIsReadyBegin op k s).Inv :=
  h.inv_htGuard hr fun hc => h.inv_readAfterPointerBegin hr fun _ _ => hpos hc

theorem inv_ptFetchBegin (h : s.Sound) (hr : s.atRest) {notReady : State → State}
    (hpos : s.pt.st = .configured → ∀ p, position op k ((s.setPtReady false).transact op k p))
    (hnotReady : s.pt.st = .configured → (notReady s).Inv) : (ptFetchBegin op k notReady s).Inv := by
  refine h.inv_ptGuard hr fun hc => ?_
  split
  · exact h.clearPtReady.inv_readBegin hr fun _ _ => hpos hc
  · exact hnotReady hc

theorem inv_htFetchBegin (h : s.Sound) (hr : s.atRest) {notReady : State → State}
    (hpos : s.ht.st = .configured → ∀ p, position op k ((s.setHtReady false).transact op k p))
    (hnotReady : s.ht.st = .configured → (notReady s).Inv) : (htFetchBegin op k notReady s).Inv := by
  refine h.inv_htGuard hr fun hc => ?_
  split
  · exact h.clearHtReady.inv_readAfterPointerBegin hr fun _ _ => hpos hc
  · exact hnotReady hc

end State.Sound

end Sys2Proof.Machine

/-! ## Positions -/

namespace Sys2Proof.Machine

variable {s t : State} {op : Instr} {k : Nat}

/-- The position reads the parameters, the channels, the drivers, the façade, and of each port only whether it is idle. -/
theorem position_congr {i : Instr} (hcfg : t.cfg = s.cfg) (hchP : t.chP = s.chP) (hchH : t.chH = s.chH) (hpt : t.pt = s.pt)
    (hht : t.ht = s.ht) (hm : t.m = s.m) (hport : t.port = .idle ↔ s.port = .idle)
    (hclaim : t.claim = .idle ↔ s.claim = .idle) : position i k t ↔ position i k s := by
  have hchan (ch : Channel) : t.chan ch = s.chan ch := by cases ch <;> simp [hchP, hchH]
  have howner (ch : Channel) : t.owner ch = s.owner ch := by cases ch <;> simp [hpt, hht]
  cases i <;>
    simp only [position, measurePosition, buildPosition, ptBuildPosition, htBuildPosition, driverConfigured, driverReady,
      State.atRest, State.claiming, State.transacting, State.bothClosed, ne_eq, hcfg, hchP, hchH, hpt, hht, hm, hport, hclaim,
      hchan, howner]

theorem State.wellPlaced.congr (h : s.wellPlaced) (hseq : t.seq = s.seq) (hcfg : t.cfg = s.cfg) (hchP : t.chP = s.chP)
    (hchH : t.chH = s.chH) (hpt : t.pt = s.pt) (hht : t.ht = s.ht) (hm : t.m = s.m) (hport : t.port = .idle ↔ s.port = .idle)
    (hclaim : t.claim = .idle ↔ s.claim = .idle) : t.wellPlaced := by
  unfold wellPlaced at h ⊢
  rw [hseq]
  split <;> rename_i hq <;> simp only [hq] at h
  · exact ⟨hport.2 h.1, hclaim.2 h.2⟩
  · exact (position_congr hcfg hchP hchH hpt hht hm hport hclaim).2 h

theorem position_op (q : Quantity) (k : Nat) (s : State) : position q.op k s = measurePosition q k s := by
  cases q <;> rfl

/-! ## Mode selections -/

/-- Where a mode selection can stand (43_pressure.md R112, R113). -/
def selectPosition (k : Nat) (s : State) : Prop :=
  s.pt.st = .configured ∧ ((k = 0 ∧ s.transacting) ∨ (k = 1 ∧ s.claim = .idle))

namespace State.Sound

theorem inv_proceedSelect (h : s.Sound) (hr : s.atRest) (hop : ∀ u, selectPosition 1 u → position op 1 u) {m : Mode}
    (hpos : selectPosition k s) (hp : proceedSelect op m k s = some t) : t.Inv := by
  obtain ⟨hc, ⟨-, ht⟩ | ⟨rfl, hclaim⟩⟩ := hpos
  · exact absurd hr.1 ht.1
  · cases hp
    exact h.inv_ptWrite hr fun _ p => hop _ ⟨hc, .inr ⟨rfl, hclaim⟩⟩

theorem inv_answerSelect (h : s.Sound) (hop : ∀ u, selectPosition 1 u → position op 1 u) {m : Mode} {st : Int}
    {d : List Byte} (hpos : selectPosition k s)
    (ha : answerSelect op m k (.transport st d) { s with port := .idle } = some t) : t.Inv := by
  have hs : State.Sound { s with port := .idle } := h.of_soundPart rfl
  obtain ⟨hc, ⟨rfl, ht⟩ | ⟨rfl, hclaim⟩⟩ := hpos <;> cases ha
  · exact hs.inv_moveTo rfl (hop _ ⟨hc, .inr ⟨rfl, ht.2⟩⟩)
  · exact (hs.selectEnd m hc).inv_finish ⟨rfl, hclaim⟩ _

end State.Sound

/-! ## Constructions -/

/-- `op` runs a PT construction: in the phase it begins with, it can stand wherever a PT construction can. -/
def HostsPtBuild (op : Instr) (ph : Phase) : Prop :=
  ∀ k s, k < 4 → s.m.phase = ph → ptBuildPosition k s → position op k s

/-- As for PT. -/
def HostsHtBuild (op : Instr) (ph : Phase) : Prop :=
  ∀ k s, k < 3 → s.m.phase = ph → htBuildPosition k s → position op k s

theorem hostsPtBuild_ptConstruct (m : Mode) (ph : Phase) : HostsPtBuild (.ptConstruct m) ph := fun _ _ _ _ h => h

theorem hostsHtBuild_htConstruct (ph : Phase) : HostsHtBuild .htConstruct ph := fun _ _ _ _ h => h

theorem hostsPtBuild_op {q : Quantity} (hq : q.sensor = .PT) : HostsPtBuild q.op .construct := by
  intro k s hk hphase h
  rw [position_op]
  exact .inl ⟨by rw [hq]; exact hk, by simpa [buildPosition, hq] using h, hphase⟩

theorem hostsHtBuild_op {q : Quantity} (hq : q.sensor = .HT) : HostsHtBuild q.op .construct := by
  intro k s hk hphase h
  rw [position_op]
  exact .inl ⟨by rw [hq]; exact hk, by simpa [buildPosition, hq] using h, hphase⟩

namespace State.Sound

theorem inv_ptConstructBegin (h : s.Sound) (hr : s.atRest) (hop : HostsPtBuild op s.m.phase) : (ptConstructBegin op s).Inv := by
  unfold ptConstructBegin
  split
  · exact h.inv_fault hr _
  next hn =>
    refine h.inv_openBegin hr (fun hc => ?_) fun hb => hop 0 _ (by simp) rfl (.inl ⟨rfl, ⟨hr.1, by simp⟩, hn, hb⟩)
    exact h.clearPtReady.inv_ptWrite hr fun _ _ => hop 1 _ (by simp) rfl (.inr (.inl ⟨rfl, hr.2, hn, hc⟩))

theorem inv_htConstructBegin (h : s.Sound) (hr : s.atRest) (hop : HostsHtBuild op s.m.phase) : (htConstructBegin op s).Inv := by
  unfold htConstructBegin
  split
  · exact h.inv_fault hr _
  next hn =>
    refine h.inv_openBegin hr (fun hc => ?_) fun hb => hop 0 _ (by simp) rfl (.inl ⟨rfl, ⟨hr.1, by simp⟩, hn, hb⟩)
    exact h.clearHtReady.inv_writeBegin hr fun _ _ _ => hop 1 _ (by simp) rfl (.inr ⟨.inl rfl, hr.2, hn, hc⟩)

theorem inv_ptConstructProceed (h : s.Sound) (hr : s.atRest) (hop : HostsPtBuild op s.m.phase) {m : Mode}
    (hpos : ptBuildPosition k s) (hp : ptConstructProceed op m k s = some t) : t.Inv := by
  obtain ⟨rfl, hclaiming, -⟩ | ⟨rfl, hpos⟩ | ⟨rfl | rfl, hpos⟩ := hpos <;> cases hp
  · exact h.inv_ptWrite hr fun _ _ => hop 1 _ (by simp) rfl (.inr (.inl ⟨rfl, hpos⟩))
  · exact h.inv_ptWrite hr fun _ _ => hop 2 _ (by simp) rfl (.inr (.inr ⟨.inl rfl, hpos⟩))
  · exact h.inv_ptWrite hr fun _ _ => hop 3 _ (by simp) rfl (.inr (.inr ⟨.inr rfl, hpos⟩))

theorem inv_htConstructProceed (h : s.Sound) (hr : s.atRest) (hop : HostsHtBuild op s.m.phase)
    (hpos : htBuildPosition k s) (hp : htConstructProceed op k s = some t) : t.Inv := by
  obtain ⟨rfl, hclaiming, -⟩ | ⟨rfl | rfl, hpos⟩ := hpos <;> cases hp
  · exact h.inv_writeBegin hr fun _ _ _ => hop 1 _ (by simp) rfl (.inr ⟨.inl rfl, hpos⟩)
  · exact h.inv_setPointerBegin hr fun _ _ _ => hop 2 _ (by simp) rfl (.inr ⟨.inr rfl, hpos⟩)

/-- The Transport's answer to one of the three writes: `done` follows the last one. -/
theorem inv_ptConstructAnswer_transport (h : s.Sound) (hport : s.port ≠ .idle) (hop : HostsPtBuild op s.m.phase) {m : Mode}
    {done failed : State → State} {st : Int} {d : List Byte} (hpos : ptBuildPosition k s)
    (ha : ptConstructAnswer op m done failed k (.transport st d) { s with port := .idle } = some t)
    (hdone : ∀ u : State, u.Sound → u.atRest → u.pt.st = .configured → u.m = s.m → (done u).Inv) : t.Inv := by
  have hs : State.Sound { s with port := .idle } := h.of_soundPart rfl
  obtain ⟨-, hclaiming, -⟩ | ⟨rfl, hclaim, hn, hc⟩ | ⟨rfl | rfl, hclaim, hc⟩ := hpos
  · exact absurd hclaiming.1 hport
  all_goals cases ha
  · exact (hs.setPt (fun _ => hc) (by simp) (by simp)).inv_moveTo rfl
      (hop 2 _ (by simp) rfl (.inr (.inr ⟨.inl rfl, hclaim, rfl⟩)))
  · exact hs.inv_moveTo rfl (hop 3 _ (by simp) rfl (.inr (.inr ⟨.inr rfl, hclaim, hc⟩)))
  · exact hdone _ (hs.selectEnd m hc) ⟨rfl, hclaim⟩ hc rfl

theorem inv_htConstructAnswer_transport (h : s.Sound) (hport : s.port ≠ .idle) (hop : HostsHtBuild op s.m.phase)
    {done failed : State → State} {st : Int} {d : List Byte} (hpos : htBuildPosition k s)
    (ha : htConstructAnswer op done failed k (.transport st d) { s with port := .idle } = some t)
    (hdone : ∀ u : State, u.Sound → u.atRest → u.ht.st = .configured → u.m = s.m → (done u).Inv) : t.Inv := by
  have hs : State.Sound { s with port := .idle } := h.of_soundPart rfl
  obtain ⟨-, hclaiming, -⟩ | ⟨rfl | rfl, hclaim, hn, hc⟩ := hpos
  · exact absurd hclaiming.1 hport
  all_goals cases ha
  · exact hs.inv_moveTo rfl (hop 2 _ (by simp) rfl (.inr ⟨.inr rfl, hclaim, hn, hc⟩))
  · exact hdone _ (hs.setHt (fun _ => hc) (by simp)) ⟨rfl, hclaim⟩ rfl rfl

theorem inv_ptConstructAnswer_claim (h : s.Sound) (hclaim : s.claim ≠ .idle) (hop : HostsPtBuild op s.m.phase) {m : Mode}
    {done failed : State → State} {ok : Bool} (hpos : ptBuildPosition k s)
    (ha : ptConstructAnswer op m done failed k (.claim ok) { s with claim := .idle } = some t)
    (hfailed : ∀ u : State, u.Sound → u.atRest → (failed u).Inv) : t.Inv := by
  have hs : State.Sound { s with claim := .idle } := h.of_soundPart rfl
  obtain ⟨rfl, hclaiming, hn, hb⟩ | ⟨-, hidle, -⟩ | ⟨-, hidle, -⟩ := hpos
  · cases ha
    refine hs.inv_openAnswer hb (fun hopen => ?_) (hfailed _ hs ⟨hclaiming.1, rfl⟩)
    exact hopen.clearPtReady.inv_moveTo hclaiming.1 (hop 1 _ (by simp) rfl (.inr (.inl ⟨rfl, rfl, hn, rfl⟩)))
  all_goals exact absurd hidle hclaim

theorem inv_htConstructAnswer_claim (h : s.Sound) (hclaim : s.claim ≠ .idle) (hop : HostsHtBuild op s.m.phase)
    {done failed : State → State} {ok : Bool} (hpos : htBuildPosition k s)
    (ha : htConstructAnswer op done failed k (.claim ok) { s with claim := .idle } = some t)
    (hfailed : ∀ u : State, u.Sound → u.atRest → (failed u).Inv) : t.Inv := by
  have hs : State.Sound { s with claim := .idle } := h.of_soundPart rfl
  obtain ⟨rfl, hclaiming, hn, hb⟩ | ⟨-, hidle, -⟩ := hpos
  · cases ha
    refine hs.inv_openAnswer hb (fun hopen => ?_) (hfailed _ hs ⟨hclaiming.1, rfl⟩)
    exact hopen.clearHtReady.inv_moveTo hclaiming.1 (hop 1 _ (by simp) rfl (.inr ⟨.inl rfl, rfl, hn, rfl⟩))
  · exact absurd hidle hclaim

end State.Sound

end Sys2Proof.Machine

/-! ## The measurements (45_measure.md R150) -/

namespace Sys2Proof.Machine

variable {s t : State} {k : Nat} {q : Quantity}

/-- A bound of `MAX_POLLS` is at least 1, so no failures do not exhaust it (00_scope.md R10). -/
theorem pollsExhausted_zero {c : Config} (h : c.wf = true) : pollsExhausted c.maxPolls 0 = false := by
  cases hm : c.maxPolls with
  | unbounded => rfl
  | bound k =>
    have hk : k ≠ 0 := by rintro rfl; simp [Config.wf, hm] at h
    simpa [pollsExhausted] using hk

/-! ### Its positions after the construction -/

/-- The driver runs and the failures so far leave an attempt. -/
def attempting (q : Quantity) (s : State) : Prop :=
  driverConfigured q s ∧ pollsExhausted s.cfg.maxPolls s.m.fails = false

theorem position_loopHead (ha : attempting q s) (hr : s.atRest) (hph : s.m.phase ≠ .close) :
    position q.op (pollStep q.sensor) s := by
  rw [position_op]
  exact .inr (.inl ⟨rfl, ha.1, ha.2, .inl ⟨hr, hph⟩⟩)

theorem position_readinessTest (ha : attempting q s) (ht : s.transacting) (hph : s.m.phase = .poll) :
    position q.op (pollStep q.sensor) s := by
  rw [position_op]
  exact .inr (.inl ⟨rfl, ha.1, ha.2, .inr ⟨ht, hph⟩⟩)

theorem position_beforeFetch (ha : attempting q s) (hr : s.atRest) (hready : driverReady q s = true) (hph : s.m.phase = .poll) :
    position q.op (pollStep q.sensor + 1) s := by
  rw [position_op]
  exact .inr (.inr ⟨rfl, ha.1, ha.2, .inl ⟨hr, hready, hph⟩⟩)

theorem position_fetch (ha : attempting q s) (ht : s.transacting) (hready : driverReady q s = false) (hph : s.m.phase = .fetch) :
    position q.op (pollStep q.sensor + 1) s := by
  rw [position_op]
  exact .inr (.inr ⟨rfl, ha.1, ha.2, .inr ⟨ht, hready, hph⟩⟩)

namespace State.Sound

theorem inv_closeWith (h : s.Sound) (hr : s.atRest) (q : Quantity) (r : Result) : (closeWith q r s).Inv := by
  unfold closeWith
  split
  · exact h.inv_ptCloseWith hr r
  · exact h.inv_htCloseWith hr r

theorem inv_failedAttempt (h : s.Sound) (hr : s.atRest) (hc : driverConfigured q s) (hph : s.m.phase ≠ .close) :
    (failedAttempt q s).Inv := by
  obtain ⟨-, heq⟩ | ⟨hmore, heq⟩ := failedAttempt_cases q s <;> rw [heq]
  · exact ((h.setFails (s.m.fails + 1)).setPhase .close).inv_closeWith hr q _
  · exact (h.setFails (s.m.fails + 1)).inv_moveTo hr.1 (position_loopHead ⟨hc, hmore⟩ hr hph)

theorem inv_constructed (h : s.Sound) (hr : s.atRest) (hc : driverConfigured q s) (hph : s.m.phase = .construct) :
    (constructed q s).Inv :=
  (h.setFails 0).inv_moveTo hr.1 (position_loopHead ⟨hc, pollsExhausted_zero h.config⟩ hr (by simp [hph]))

theorem inv_measureBegin (h : s.Sound) (hr : s.atRest) (q : Quantity) : (measureBegin q s).Inv := by
  unfold measureBegin constructBegin
  split
  next hq => exact (h.setPhase .construct).inv_ptConstructBegin hr (hostsPtBuild_op hq)
  next hq => exact (h.setPhase .construct).inv_htConstructBegin hr (hostsHtBuild_op hq)

theorem inv_isReadyBegin (h : s.Sound) (hr : s.atRest) (ha : attempting q s) (hph : s.m.phase = .poll) :
    (isReadyBegin q s).Inv := by
  have hpos (p : List Byte) : position q.op (pollStep q.sensor) (s.transact q.op (pollStep q.sensor) p) :=
    position_readinessTest ha ⟨by simp, hr.2⟩ hph
  unfold isReadyBegin
  split <;> rename_i hq <;> rw [hq] at hpos
  · exact h.inv_ptIsReadyBegin hr fun _ => hpos
  · exact h.inv_htIsReadyBegin hr fun _ => hpos

theorem inv_fetchBegin (h : s.Sound) (hr : s.atRest) (ha : attempting q s) (hph : s.m.phase = .fetch) :
    (fetchBegin q s).Inv := by
  obtain ⟨hc, hmore⟩ := ha
  have hfailed : (failedAttempt q s).Inv := h.inv_failedAttempt hr hc (by simp [hph])
  have hpos {u : State} (hu : attempting q u) (ht : u.transacting) (hready : driverReady q u = false)
      (hph : u.m.phase = .fetch) : position q.op (pollStep q.sensor + 1) u := position_fetch hu ht hready hph
  unfold fetchBegin
  split <;> rename_i hq <;> rw [hq] at hpos
  · exact h.inv_ptFetchBegin hr (fun _ p => hpos ⟨hc, hmore⟩ ⟨by simp, hr.2⟩ (by simp [driverReady, hq]) hph)
      fun _ => hfailed
  · exact h.inv_htFetchBegin hr (fun _ p => hpos ⟨hc, hmore⟩ ⟨by simp, hr.2⟩ (by simp [driverReady, hq]) hph)
      fun _ => hfailed

theorem inv_loopHead (h : s.Sound) (hr : s.atRest) (ha : attempting q s) (hseq : s.seq = .exec q.op (pollStep q.sensor))
    (hl : loopHead q s = some t) : t.Inv := by
  have hpoll : (isReadyBegin q (s.setPhase .poll)).Inv := (h.setPhase .poll).inv_isReadyBegin hr ha rfl
  have hhead : position q.op (pollStep q.sensor) (s.setPhase .sleep) :=
    position_loopHead (s := s.setPhase .sleep) ha hr (by simp)
  have hsleep : (s.setPhase .sleep).Inv := (h.setPhase .sleep).inv hr.1 (by simpa only [wellPlaced, setPhase_seq, hseq])
  unfold loopHead at hl
  split at hl <;> cases hl
  exacts [hpoll, hpoll, hsleep, hsleep, hsleep]

theorem inv_measureProceed (h : s.Sound) (hr : s.atRest) (hseq : s.seq = .exec q.op k) (hpos : measurePosition q k s)
    (hp : measureProceed q k s = some t) : t.Inv := by
  obtain ⟨hk, hpos, hph⟩ | ⟨rfl, hc, hmore, -⟩ | ⟨rfl, hc, hmore, -⟩ := hpos
  · simp only [measureProceed, hk, if_true, constructProceed] at hp
    unfold buildPosition at hpos
    split at hp <;> rename_i hq <;> simp only [hq] at hpos
    · exact h.inv_ptConstructProceed hr (hph ▸ hostsPtBuild_op hq) hpos hp
    · exact h.inv_htConstructProceed hr (hph ▸ hostsHtBuild_op hq) hpos hp
  · exact h.inv_loopHead hr ⟨hc, hmore⟩ hseq (by simpa [measureProceed] using hp)
  · obtain rfl : fetchBegin q (s.setPhase .fetch) = t := by simpa [measureProceed] using hp
    exact (h.setPhase .fetch).inv_fetchBegin hr ⟨hc, hmore⟩ rfl

/-! ### On an answer -/

/-- With the latch written, the attempt goes on to the fetch or has failed. -/
theorem inv_tested (h : s.Sound) (hr : s.atRest) (ha : attempting q s) (hph : s.m.phase = .poll) :
    (if driverReady q s then s.moveTo q.op (pollStep q.sensor + 1) else failedAttempt q s).Inv := by
  split
  next hready => exact h.inv_moveTo hr.1 (position_beforeFetch ha hr hready hph)
  next => exact h.inv_failedAttempt hr ha.1 (by simp [hph])

theorem inv_pollAnswer (h : s.Sound) (hr : s.atRest) (ha : attempting q s) (hph : s.m.phase = .poll) (st : Int)
    (d : List Byte) : (pollAnswer q st d s).Inv := by
  obtain ⟨hc, hmore⟩ := ha
  unfold pollAnswer
  split <;> rename_i hq
  · have hpt : s.pt.st = .configured := by simpa [driverConfigured, hq] using hc
    exact inv_tested (s := ptIsReadyEnd st d s) (h.ptTested hpt st d) hr ⟨hc, hmore⟩ hph
  · have hht : s.ht.st = .configured := by simpa [driverConfigured, hq] using hc
    exact inv_tested (s := htIsReadyEnd st d s) (h.htTested hht st d) hr ⟨hc, hmore⟩ hph

theorem inv_fetchAnswer (h : s.Sound) (hr : s.atRest) (hc : driverConfigured q s) (hph : s.m.phase = .fetch) (st : Int)
    (d : List Byte) : (fetchAnswer q st d s).Inv := by
  have hfailed : (failedAttempt q s).Inv := h.inv_failedAttempt hr hc (by simp [hph])
  unfold fetchAnswer decoded
  split
  · split
    · exact ((h.setPhase .decode).setPhase .close).inv_closeWith hr q _
    · exact (h.setPhase .decode).inv_failedAttempt hr hc (by simp)
  · exact hfailed
  · exact hfailed

theorem inv_measureAnswer_transport (h : s.Sound) (hport : s.port ≠ .idle) {st : Int} {d : List Byte}
    (hpos : measurePosition q k s) (ha : measureAnswer q k (.transport st d) { s with port := .idle } = some t) :
    t.Inv := by
  have hs : State.Sound { s with port := .idle } := h.of_soundPart rfl
  obtain ⟨hk, hpos, hph⟩ | ⟨rfl, hc, hmore, ⟨hr, -⟩ | ⟨ht, hph⟩⟩ | ⟨rfl, hc, hmore, ⟨hr, -⟩ | ⟨ht, -, hph⟩⟩ := hpos
  · simp only [measureAnswer, hk, if_true, constructAnswer] at ha
    unfold buildPosition at hpos
    have hdone (u : State) (hu : u.Sound) (hur : u.atRest) (huc : driverConfigured q u) (hm : u.m = s.m) :
        (constructed q u).Inv := hu.inv_constructed hur huc (hm ▸ hph)
    split at ha <;> rename_i hq <;> simp only [hq] at hpos
    · exact h.inv_ptConstructAnswer_transport hport (hph ▸ hostsPtBuild_op hq) hpos ha
        fun u hu hur huc => hdone u hu hur (by simpa [driverConfigured, hq] using huc)
    · exact h.inv_htConstructAnswer_transport hport (hph ▸ hostsHtBuild_op hq) hpos ha
        fun u hu hur huc => hdone u hu hur (by simpa [driverConfigured, hq] using huc)
  · exact absurd hr.1 hport
  · obtain rfl : pollAnswer q st d { s with port := .idle } = t := by simpa [measureAnswer] using ha
    exact hs.inv_pollAnswer ⟨rfl, ht.2⟩ ⟨hc, hmore⟩ hph st d
  · exact absurd hr.1 hport
  · obtain rfl : fetchAnswer q st d { s with port := .idle } = t := by simpa [measureAnswer] using ha
    exact hs.inv_fetchAnswer ⟨rfl, ht.2⟩ hc hph st d

theorem inv_measureAnswer_claim (h : s.Sound) (hclaim : s.claim ≠ .idle) {ok : Bool} (hpos : measurePosition q k s)
    (ha : measureAnswer q k (.claim ok) { s with claim := .idle } = some t) : t.Inv := by
  have hfailed (u : State) (hu : u.Sound) (hur : u.atRest) : (constructFailed q u).Inv := hu.inv_finish hur _
  obtain ⟨hk, hpos, hph⟩ | ⟨-, -, -, ⟨hr, -⟩ | ⟨ht, -⟩⟩ | ⟨-, -, -, ⟨hr, -⟩ | ⟨ht, -⟩⟩ := hpos
  · simp only [measureAnswer, hk, if_true, constructAnswer] at ha
    unfold buildPosition at hpos
    split at ha <;> rename_i hq <;> simp only [hq] at hpos
    · exact h.inv_ptConstructAnswer_claim hclaim (hph ▸ hostsPtBuild_op hq) hpos ha hfailed
    · exact h.inv_htConstructAnswer_claim hclaim (hph ▸ hostsHtBuild_op hq) hpos ha hfailed
  · exact absurd hr.2 hclaim
  · exact absurd ht.2 hclaim
  · exact absurd hr.2 hclaim
  · exact absurd ht.2 hclaim

end State.Sound

end Sys2Proof.Machine

/-! ## The steps keep the invariant -/

namespace Sys2Proof.Machine

variable {s t : State} {i : Instr} {k : Nat}

/-- An outcome that is a next state is that state. -/
theorem next_inj {u : State} (h : (Host.Outcome.next u : Host.Outcome State Fault Refusal) = .next t) : u = t := by
  injection h

theorem orNoPosition_eq_next {o : Option State} : orNoPosition o = .next t ↔ o = some t := by
  cases o <;> simp [orNoPosition]

namespace State.Sound

theorem inv_emit (h : s.Sound) (hq : s.quiet) (es : List Byte) : (s.emit es).Inv := inv_of_quiet (h.of_soundPart rfl) hq

/-- Whatever operation begins with nothing running, the invariant holds after its first step. -/
theorem inv_exec (h : s.Sound) (hq : s.quiet) (he : exec i s = .next t) : t.Inv := by
  have hr : s.atRest := hq.2
  have hsent (op : Instr) (p : List Byte) : (s.transact op 0 p).transacting := ⟨by simp, hr.2⟩
  cases i
  case tokFlags => cases he
  all_goals obtain rfl := next_inj he
  case tokEnd =>
    have hasm : State.Sound { s with asm := [] } := h.of_soundPart rfl
    exact hasm.inv_finish hr _
  case tokEscape | tokStart | tokStop => exact h.inv_emit hq _
  case tokAddress | tokRead =>
    split
    · exact h.inv_refuse hr _
    · exact h.inv_emit hq _
  case tokWrite =>
    split
    · exact h.inv_emit hq _
    · exact h.inv_refuse hr _
  case encWrite | encReadComb | encSplitPtr | encSplitRead => exact h.inv_returnProgram hr _
  case decResult | ptDecodeAltitude | ptDecodePressure | ptDecodeTemperature | htConvTemperature | htConvHumidity
    | htDecodeTemperature | htDecodeHumidity => exact h.inv_finish hr _
  case twos =>
    split
    · exact h.inv_refuse hr _
    · split
      · exact h.inv_refuse hr _
      · exact h.inv_finish hr _
  case chOpen ch =>
    split
    · exact h.inv_fault hr _
    next ho => exact h.inv_openBegin hr (fun _ => h.inv_finish hr _) fun hb => ⟨rfl, ⟨hr.1, by simp⟩, hb, ho⟩
  case chRead ch a r l => exact h.inv_readBegin hr fun ho hc p => ⟨rfl, hsent _ p, hc, ho rfl⟩
  case chWrite ch a r p => exact h.inv_writeBegin hr fun ho hc p => ⟨rfl, hsent _ p, hc, ho rfl⟩
  case chWrite1 ch a r b => exact h.inv_writeBegin hr fun ho hc p => ⟨rfl, hsent _ p, hc, ho rfl⟩
  case chClose ch =>
    split
    · exact h.inv_fault hr _
    next ho => exact h.inv_closeBegin hr ((h.release.setChan_closed ho).inv_finish (atRest_setChan.2 hr) _)
  case pwSetPointer a r => exact h.inv_setPointerBegin hr fun ho hc p => ⟨rfl, hsent _ p, hc, ho rfl⟩
  case pwReadAfterPointer a l => exact h.inv_readAfterPointerBegin hr fun ho hc p => ⟨rfl, hsent _ p, hc, ho rfl⟩
  case ptConstruct m => exact h.inv_ptConstructBegin hr (hostsPtBuild_ptConstruct m _)
  case ptSelectAltitude | ptSelectBarometric =>
    exact h.inv_ptGuard hr fun hc => h.inv_ptWrite hr fun _ p => ⟨hc, .inl ⟨rfl, hsent _ p⟩⟩
  case ptIsReady => exact h.inv_ptIsReadyBegin hr fun hc p => ⟨rfl, hsent _ p, hc⟩
  case ptFetchRaw => exact h.inv_ptFetchBegin hr (fun hc _ => ⟨rfl, ⟨by simp, hr.2⟩, hc, rfl⟩) fun _ => h.inv_finish hr _
  case ptClose => exact h.inv_ptCloseWith hr _
  case htConstruct => exact h.inv_htConstructBegin hr (hostsHtBuild_htConstruct _)
  case htIsReady => exact h.inv_htIsReadyBegin hr fun hc p => ⟨rfl, hsent _ p, hc⟩
  case htFetchRaw => exact h.inv_htFetchBegin hr (fun hc _ => ⟨rfl, ⟨by simp, hr.2⟩, hc, rfl⟩) fun _ => h.inv_finish hr _
  case htClose => exact h.inv_htCloseWith hr _
  case mPressure | mAltitude | mTemperaturePt | mHumidity | mTemperatureHt => exact h.inv_measureBegin hr _

/-- The Sequencer goes on with its next exchange. -/
theorem inv_proceed (h : s.Sound) (hr : s.atRest) (hseq : s.seq = .exec i k) (hpos : position i k s)
    (hp : proceed i k s = some t) : t.Inv := by
  cases i
  case ptConstruct m => exact h.inv_ptConstructProceed hr (hostsPtBuild_ptConstruct m _) hpos hp
  case htConstruct => exact h.inv_htConstructProceed hr (hostsHtBuild_htConstruct _) hpos hp
  case ptSelectAltitude => exact h.inv_proceedSelect hr (fun _ => id) hpos hp
  case ptSelectBarometric => exact h.inv_proceedSelect hr (fun _ => id) hpos hp
  case mPressure => exact h.inv_measureProceed (q := .pressure) hr hseq hpos hp
  case mAltitude => exact h.inv_measureProceed (q := .altitude) hr hseq hpos hp
  case mTemperaturePt => exact h.inv_measureProceed (q := .temperaturePt) hr hseq hpos hp
  case mHumidity => exact h.inv_measureProceed (q := .humidity) hr hseq hpos hp
  case mTemperatureHt => exact h.inv_measureProceed (q := .temperatureHt) hr hseq hpos hp
  all_goals cases hp

/-- The Sequencer consumes the claim's answer. -/
theorem inv_answer_claim (h : s.Sound) (hclaim : s.claim ≠ .idle) (hpos : position i k s) {ok : Bool}
    (ha : answer i k (.claim ok) { s with claim := .idle } = some t) : t.Inv := by
  have hs : State.Sound { s with claim := .idle } := h.of_soundPart rfl
  cases i
  case chOpen ch =>
    obtain ⟨rfl, hc, hb, -⟩ := hpos
    cases ha
    have hr : State.atRest { s with claim := .idle } := ⟨hc.1, rfl⟩
    exact hs.inv_openAnswer hb (fun hopen => hopen.inv_finish (atRest_setChan.2 hr) _) (hs.inv_finish hr _)
  case ptConstruct m =>
    simp only [answer, answerPtConstruct] at ha
    exact h.inv_ptConstructAnswer_claim hclaim (hostsPtBuild_ptConstruct m _) hpos ha fun _ hu hur => hu.inv_finish hur _
  case htConstruct =>
    simp only [answer, answerHtConstruct] at ha
    exact h.inv_htConstructAnswer_claim hclaim (hostsHtBuild_htConstruct _) hpos ha fun _ hu hur => hu.inv_finish hur _
  case mPressure => exact h.inv_measureAnswer_claim (q := .pressure) hclaim hpos ha
  case mAltitude => exact h.inv_measureAnswer_claim (q := .altitude) hclaim hpos ha
  case mTemperaturePt => exact h.inv_measureAnswer_claim (q := .temperaturePt) hclaim hpos ha
  case mHumidity => exact h.inv_measureAnswer_claim (q := .humidity) hclaim hpos ha
  case mTemperatureHt => exact h.inv_measureAnswer_claim (q := .temperatureHt) hclaim hpos ha
  case chRead | chWrite | chWrite1 | pwSetPointer | pwReadAfterPointer | ptIsReady | ptFetchRaw | htIsReady | htFetchRaw =>
    obtain ⟨-, ht, -⟩ := hpos
    exact absurd ht.2 hclaim
  case ptSelectAltitude | ptSelectBarometric =>
    obtain ⟨-, ⟨-, ht⟩ | ⟨-, hidle⟩⟩ := hpos
    · exact absurd ht.2 hclaim
    · exact absurd hidle hclaim
  all_goals cases ha

/-- The Sequencer consumes the Transport's answer. -/
theorem inv_answer_transport (h : s.Sound) (hport : s.port ≠ .idle) (hpos : position i k s) {st : Int} {d : List Byte}
    (ha : answer i k (.transport st d) { s with port := .idle } = some t) : t.Inv := by
  have hs : State.Sound { s with port := .idle } := h.of_soundPart rfl
  have hrest (ht : s.transacting) : State.atRest { s with port := .idle } := ⟨rfl, ht.2⟩
  cases i
  case chOpen ch =>
    obtain ⟨-, hc, -⟩ := hpos
    exact absurd hc.1 hport
  case chRead | chWrite | chWrite1 | pwSetPointer | pwReadAfterPointer | ptFetchRaw | htFetchRaw =>
    obtain ⟨rfl, ht, -⟩ := hpos
    cases ha
    exact hs.inv_finish (hrest ht) _
  case ptIsReady =>
    obtain ⟨rfl, ht, hc⟩ := hpos
    cases ha
    exact (hs.ptTested hc st d).inv_finish (hrest ht) _
  case htIsReady =>
    obtain ⟨rfl, ht, hc⟩ := hpos
    cases ha
    exact (hs.htTested hc st d).inv_finish (hrest ht) _
  case ptSelectAltitude => exact h.inv_answerSelect (fun _ => id) hpos ha
  case ptSelectBarometric => exact h.inv_answerSelect (fun _ => id) hpos ha
  case ptConstruct m =>
    simp only [answer, answerPtConstruct] at ha
    exact h.inv_ptConstructAnswer_transport hport (hostsPtBuild_ptConstruct m _) hpos ha fun _ hu hur _ _ => hu.inv_finish hur _
  case htConstruct =>
    simp only [answer, answerHtConstruct] at ha
    exact h.inv_htConstructAnswer_transport hport (hostsHtBuild_htConstruct _) hpos ha fun _ hu hur _ _ => hu.inv_finish hur _
  case mPressure => exact h.inv_measureAnswer_transport (q := .pressure) hport hpos ha
  case mAltitude => exact h.inv_measureAnswer_transport (q := .altitude) hport hpos ha
  case mTemperaturePt => exact h.inv_measureAnswer_transport (q := .temperaturePt) hport hpos ha
  case mHumidity => exact h.inv_measureAnswer_transport (q := .humidity) hport hpos ha
  case mTemperatureHt => exact h.inv_measureAnswer_transport (q := .temperatureHt) hport hpos ha
  all_goals cases ha

end State.Sound

/-! ### The agents -/

theorem inv_transportStep {p : List Byte} (h : s.Inv) (hp : s.port = .busy p) : (transportStep s).Inv := by
  unfold transportStep
  split
  · exact h
  · exact { h.sound with
      busyProgram := by simp
      placed := h.placed.congr rfl rfl rfl rfl rfl rfl rfl (by simp [hp]) .rfl }

theorem inv_claimStep (h : s.Inv) (hc : s.claim = .busy) : (claimStep s).Inv := by
  unfold claimStep
  split
  · exact h
  · exact { h.sound with
      busyProgram := h.busyProgram
      placed := h.placed.congr rfl rfl rfl rfl rfl rfl rfl .rfl (by simp [hc]) }

theorem inv_consumeTransport {st : Int} {d : List Byte} (h : s.Inv) (hp : s.port = .answered st d)
    (hs : consumeTransport st d s = .next t) : t.Inv := by
  have hplaced := h.placed
  unfold consumeTransport at hs
  unfold State.wellPlaced at hplaced
  split at hs <;> rename_i hq <;> simp only [hq] at hplaced
  · exact h.sound.inv_answer_transport (by simp [hp]) hplaced (orNoPosition_eq_next.1 hs)
  · simp at hs

theorem inv_consumeClaim {ok : Bool} (h : s.Inv) (hc : s.claim = .answered ok) (hs : consumeClaim ok s = .next t) :
    t.Inv := by
  have hplaced := h.placed
  unfold consumeClaim at hs
  unfold State.wellPlaced at hplaced
  split at hs <;> rename_i hq <;> simp only [hq] at hplaced
  · exact h.sound.inv_answer_claim (by simp [hc]) hplaced (orNoPosition_eq_next.1 hs)
  · simp at hs

theorem inv_commandStep (h : s.Inv) (hq : s.quiet) (hs : commandStep s = .next t) : t.Inv := by
  have htaken (rest : List (List Byte)) : (takeFrame s rest).Sound := h.sound.of_soundPart rfl
  unfold commandStep at hs
  split at hs
  · exact next_inj hs ▸ h
  · split at hs
    · exact next_inj hs ▸ (htaken _).inv_refuse hq.2 _
    · exact (htaken _).inv_exec hq hs

/-- Settles O52. The agent that moves keeps the invariant, whichever it is: a port's answer leaves the position where it is, and
the Sequencer moves to a position that fits again. -/
theorem stepKeepsTheInvariant : Obligations.StepKeepsTheInvariant := by
  intro s t h hs
  obtain ⟨p, hp, heq⟩ | ⟨st, d, hp, heq⟩ | ⟨-, hc, heq⟩ | ⟨ok, -, hc, heq⟩ | ⟨op, k, hp, hc, hq, heq⟩ | ⟨hp, hc, hq, heq⟩ :=
    step_cases s <;> rw [heq] at hs
  · exact next_inj hs ▸ inv_transportStep h hp
  · exact inv_consumeTransport h hp hs
  · exact next_inj hs ▸ inv_claimStep h hc
  · exact inv_consumeClaim h hc hs
  · have hplaced : position op k s := by simpa only [State.wellPlaced, hq] using h.placed
    exact h.sound.inv_proceed ⟨hp, hc⟩ hq hplaced (orNoPosition_eq_next.1 hs)
  · exact inv_commandStep h ⟨hq, hp, hc⟩ hs

end Sys2Proof.Machine

/-! ## What a step cannot change

`Keeps s t` says what the Sequencer keeps, in every state, as long as it consumes neither a granted claim nor a readiness
test's answer; `StepEffect` adds those two. Off the invariant too, so no lemma here asks for it. -/

namespace Sys2Proof.Machine

/-- The parameters stay, the sticky sets grow, a channel changes only by a Release, and no latch is set. -/
structure Keeps (s t : State) : Prop where
  cfg : t.cfg = s.cfg
  faults : s.faults ⊆ t.faults
  refused : s.refused ⊆ t.refused
  chan : ∀ ch, t.chan ch = s.chan ch ∨
    (s.chan ch = .opened ∧ t.chan ch = .closed ∧ t.io.trace = s.io.trace ++ [.release])
  ptReady : t.pt.ready = true → s.pt.ready = true
  htReady : t.ht.ready = true → s.ht.ready = true

/-- `u` differs from `s` only in what `Keeps` leaves free without a Release. -/
structure Untouched (s u : State) : Prop where
  cfg : u.cfg = s.cfg
  faults : u.faults = s.faults
  refused : u.refused = s.refused
  chan : ∀ ch, u.chan ch = s.chan ch
  trace : u.io.trace = s.io.trace
  ptReady : u.pt.ready = true → s.pt.ready = true
  htReady : u.ht.ready = true → s.ht.ready = true

variable {s t u : State} {op : Instr} {k : Nat} {q : Quantity} {ans : Answer}

theorem Untouched.trans (h : Untouched s u) (h' : Untouched u t) : Untouched s t where
  cfg := h'.cfg.trans h.cfg
  faults := h'.faults.trans h.faults
  refused := h'.refused.trans h.refused
  chan ch := (h'.chan ch).trans (h.chan ch)
  trace := h'.trace.trans h.trace
  ptReady := h.ptReady ∘ h'.ptReady
  htReady := h.htReady ∘ h'.htReady

theorem Untouched.keeps (h : Untouched s t) : Keeps s t where
  cfg := h.cfg
  faults := h.faults ▸ List.Subset.refl _
  refused := h.refused ▸ List.Subset.refl _
  chan ch := .inl (h.chan ch)
  ptReady := h.ptReady
  htReady := h.htReady

/-- What is kept after untouched updates is kept from before them. -/
theorem Untouched.keeps_trans (h : Untouched s u) (h' : Keeps u t) : Keeps s t where
  cfg := h'.cfg.trans h.cfg
  faults := h.faults ▸ h'.faults
  refused := h.refused ▸ h'.refused
  chan ch := h.chan ch ▸ h.trace ▸ h'.chan ch
  ptReady := h.ptReady ∘ h'.ptReady
  htReady := h.htReady ∘ h'.htReady

/-! ### The updates -/

theorem untouched_refl (s : State) : Untouched s s := ⟨rfl, rfl, rfl, fun _ => rfl, rfl, id, id⟩

theorem untouched_portIdle (s : State) : Untouched s { s with port := .idle } := ⟨rfl, rfl, rfl, fun _ => rfl, rfl, id, id⟩

theorem untouched_claimIdle (s : State) : Untouched s { s with claim := .idle } := ⟨rfl, rfl, rfl, fun _ => rfl, rfl, id, id⟩

theorem untouched_takeFrame (s : State) (rest : List (List Byte)) : Untouched s (takeFrame s rest) :=
  ⟨rfl, rfl, rfl, fun _ => rfl, rfl, id, id⟩

theorem untouched_emit (s : State) (es : List Byte) : Untouched s (s.emit es) := ⟨rfl, rfl, rfl, fun _ => rfl, rfl, id, id⟩

theorem untouched_moveTo (s : State) (op : Instr) (k : Nat) : Untouched s (s.moveTo op k) :=
  ⟨rfl, rfl, rfl, fun _ => rfl, rfl, id, id⟩

theorem untouched_finish (s : State) (r : Result) : Untouched s (s.finish r) := ⟨rfl, rfl, rfl, fun _ => rfl, rfl, id, id⟩

theorem untouched_setPhase (s : State) (p : Phase) : Untouched s (s.setPhase p) := ⟨rfl, rfl, rfl, fun _ => rfl, rfl, id, id⟩

theorem untouched_setFails (s : State) (n : Nat) : Untouched s (s.setFails n) := ⟨rfl, rfl, rfl, fun _ => rfl, rfl, id, id⟩

/-- A new driver record whose latch is set only if it was. -/
theorem untouched_setPt {v : PtDriver} (hv : v.ready = true → s.pt.ready = true) : Untouched s (s.setPt v) :=
  ⟨rfl, rfl, rfl, fun _ => rfl, rfl, hv, id⟩

theorem untouched_setHt {v : HtDriver} (hv : v.ready = true → s.ht.ready = true) : Untouched s (s.setHt v) :=
  ⟨rfl, rfl, rfl, fun _ => rfl, rfl, id, hv⟩

theorem untouched_clearPtReady (s : State) : Untouched s (s.setPtReady false) := untouched_setPt nofun

theorem untouched_clearHtReady (s : State) : Untouched s (s.setHtReady false) := untouched_setHt nofun

theorem untouched_selectEnd (m : Mode) (s : State) : Untouched s (selectEnd m s) := untouched_setPt nofun

theorem keeps_finish (s : State) (r : Result) : Keeps s (s.finish r) := (untouched_finish s r).keeps

theorem keeps_moveTo (s : State) (op : Instr) (k : Nat) : Keeps s (s.moveTo op k) := (untouched_moveTo s op k).keeps

theorem keeps_fault (s : State) (f : Fault) : Keeps s (s.fault f) :=
  ⟨rfl, insertNew_subset f _, List.Subset.refl _, fun _ => .inl rfl, id, id⟩

theorem keeps_refuse (s : State) (f : Refusal) : Keeps s (s.refuse f) :=
  ⟨rfl, List.Subset.refl _, insertNew_subset f _, fun _ => .inl rfl, id, id⟩

theorem keeps_transact (s : State) (op : Instr) (k : Nat) (p : List Byte) : Keeps s (s.transact op k p) :=
  ⟨rfl, List.Subset.refl _, List.Subset.refl _, fun _ => .inl rfl, id, id⟩

theorem keeps_claimBus (s : State) (op : Instr) (k : Nat) : Keeps s (s.claimBus op k) :=
  ⟨rfl, List.Subset.refl _, List.Subset.refl _, fun _ => .inl rfl, id, id⟩

/-! ### The shared operations -/

theorem keeps_returnProgram (s : State) (prog : Except Refusal (List Byte)) : Keeps s (s.returnProgram prog) := by
  cases prog with
  | error e => exact keeps_refuse s e
  | ok p => exact keeps_finish s _

theorem keeps_channelTransact (op : Instr) (k : Nat) (direct : Bool) (ch : Channel) (code : Byte)
    (prog : Except Refusal (List Byte)) (s : State) : Keeps s (channelTransact op k direct ch code prog s) := by
  obtain ⟨e, -, heq⟩ | ⟨p, -, -, -, heq⟩ | ⟨p, -, -, -, heq⟩ | ⟨p, -, -, -, heq⟩ :=
    channelTransact_cases op k direct ch code prog s <;> rw [heq]
  · exact keeps_refuse s e
  · exact keeps_fault s _
  · exact keeps_transact s op k p
  · exact keeps_fault s _

theorem keeps_writeBegin (op : Instr) (k : Nat) (direct : Bool) (ch : Channel) (a : Nat) (r : Byte) (p : List Byte)
    (s : State) : Keeps s (writeBegin op k direct ch a r p s) :=
  keeps_channelTransact ..

theorem keeps_openBegin {ch : Channel} {already : State → State} (h : Keeps s (already s)) :
    Keeps s (openBegin op k ch already s) := by
  obtain ⟨-, heq⟩ | ⟨-, -, heq⟩ | ⟨-, -, heq⟩ := openBegin_cases op k ch already s <;> rw [heq]
  · exact h
  · exact keeps_fault s _
  · exact keeps_claimBus s op k

@[simp] theorem chan_release (s : State) (ch : Channel) : s.release.chan ch = s.chan ch := rfl

theorem eq_or_eq_otherChannel (c ch : Channel) : c = ch ∨ c = otherChannel ch := by
  cases c <;> cases ch <;> simp

/-- The one place where a channel closes: with the Release just made. -/
theorem keeps_closeBegin {ch : Channel} {closed : State → State} (h : ∀ u, Untouched u (closed u)) :
    Keeps s (closeBegin ch closed s) := by
  obtain ⟨hc, heq⟩ | ⟨-, heq⟩ := closeBegin_cases ch closed s <;> rw [heq]
  · have hu := h (s.release.setChan ch .closed)
    refine ⟨by simp [hu.cfg], by simp [hu.faults], by simp [hu.refused], fun c => ?_, by simpa using hu.ptReady,
      by simpa using hu.htReady⟩
    rw [hu.chan, hu.trace]
    obtain rfl | rfl := eq_or_eq_otherChannel c ch
    · exact .inr ⟨hc, by simp, by simp⟩
    · exact .inl (by simp)
  · exact keeps_fault s _

theorem keeps_ptGuard {code : Byte} {body : State → State} (h : Keeps s (body s)) : Keeps s (ptGuard code body s) := by
  obtain ⟨-, heq⟩ | ⟨-, heq⟩ := ptGuard_cases code body s <;> rw [heq]
  · exact h
  · exact keeps_fault s _

theorem keeps_htGuard {code : Byte} {body : State → State} (h : Keeps s (body s)) : Keeps s (htGuard code body s) := by
  obtain ⟨-, heq⟩ | ⟨-, heq⟩ := htGuard_cases code body s <;> rw [heq]
  · exact h
  · exact keeps_fault s _

theorem keeps_ptWrite (op : Instr) (k : Nat) (r b : Byte) (s : State) : Keeps s (ptWrite op k r b s) :=
  keeps_writeBegin ..

theorem keeps_ptCloseWith (r : Result) (s : State) : Keeps s (ptCloseWith r s) :=
  keeps_ptGuard (keeps_closeBegin fun _ => (untouched_setPt (by simp)).trans (untouched_finish _ r))

theorem keeps_htCloseWith (r : Result) (s : State) : Keeps s (htCloseWith r s) :=
  keeps_htGuard (keeps_closeBegin fun _ => (untouched_setHt (by simp)).trans (untouched_finish _ r))

theorem keeps_ptIsReadyBegin (op : Instr) (k : Nat) (s : State) : Keeps s (ptIsReadyBegin op k s) :=
  keeps_ptGuard (keeps_channelTransact ..)

theorem keeps_htIsReadyBegin (op : Instr) (k : Nat) (s : State) : Keeps s (htIsReadyBegin op k s) :=
  keeps_htGuard (keeps_channelTransact ..)

theorem keeps_ptFetchBegin {notReady : State → State} (h : Keeps s (notReady s)) :
    Keeps s (ptFetchBegin op k notReady s) := by
  refine keeps_ptGuard ?_
  split
  · exact (untouched_clearPtReady s).keeps_trans (keeps_channelTransact ..)
  · exact h

theorem keeps_htFetchBegin {notReady : State → State} (h : Keeps s (notReady s)) :
    Keeps s (htFetchBegin op k notReady s) := by
  refine keeps_htGuard ?_
  split
  · exact (untouched_clearHtReady s).keeps_trans (keeps_channelTransact ..)
  · exact h

theorem keeps_setupWrite (op : Instr) (s : State) : Keeps s (setupWrite op s) := keeps_writeBegin ..

theorem keeps_ptConstructBegin (op : Instr) (s : State) : Keeps s (ptConstructBegin op s) := by
  unfold ptConstructBegin
  split
  · exact keeps_fault s _
  · exact keeps_openBegin ((untouched_clearPtReady s).keeps_trans (keeps_ptWrite ..))

theorem keeps_htConstructBegin (op : Instr) (s : State) : Keeps s (htConstructBegin op s) := by
  unfold htConstructBegin
  split
  · exact keeps_fault s _
  · exact keeps_openBegin ((untouched_clearHtReady s).keeps_trans (keeps_setupWrite ..))

theorem keeps_ptConstructProceed {m : Mode} (h : ptConstructProceed op m k s = some t) : Keeps s t := by
  unfold ptConstructProceed at h
  split at h <;> cases h <;> exact keeps_ptWrite ..

theorem keeps_htConstructProceed (h : htConstructProceed op k s = some t) : Keeps s t := by
  unfold htConstructProceed at h
  split at h <;> cases h
  · exact keeps_setupWrite ..
  · exact keeps_channelTransact ..

theorem keeps_proceedSelect {m : Mode} (h : proceedSelect op m k s = some t) : Keeps s t := by
  unfold proceedSelect at h
  split at h <;> cases h
  exact keeps_ptWrite ..

/-! ### The measurements -/

theorem keeps_closeWith (q : Quantity) (r : Result) (s : State) : Keeps s (closeWith q r s) := by
  unfold closeWith
  split
  · exact keeps_ptCloseWith r s
  · exact keeps_htCloseWith r s

theorem keeps_failedAttempt (q : Quantity) (s : State) : Keeps s (failedAttempt q s) := by
  have hcount := untouched_setFails s (s.m.fails + 1)
  obtain ⟨-, heq⟩ | ⟨-, heq⟩ := failedAttempt_cases q s <;> rw [heq]
  · exact (hcount.trans (untouched_setPhase _ .close)).keeps_trans (keeps_closeWith ..)
  · exact hcount.keeps_trans (keeps_moveTo ..)

theorem keeps_constructed (q : Quantity) (s : State) : Keeps s (constructed q s) :=
  (untouched_setFails s 0).keeps_trans (keeps_moveTo ..)

theorem keeps_measureBegin (q : Quantity) (s : State) : Keeps s (measureBegin q s) := by
  unfold measureBegin constructBegin
  split
  · exact (untouched_setPhase s .construct).keeps_trans (keeps_ptConstructBegin ..)
  · exact (untouched_setPhase s .construct).keeps_trans (keeps_htConstructBegin ..)

theorem keeps_isReadyBegin (q : Quantity) (s : State) : Keeps s (isReadyBegin q s) := by
  unfold isReadyBegin
  split
  · exact keeps_ptIsReadyBegin ..
  · exact keeps_htIsReadyBegin ..

theorem keeps_fetchBegin (q : Quantity) (s : State) : Keeps s (fetchBegin q s) := by
  unfold fetchBegin
  split
  · exact keeps_ptFetchBegin (keeps_failedAttempt q s)
  · exact keeps_htFetchBegin (keeps_failedAttempt q s)

theorem keeps_loopHead (h : loopHead q s = some t) : Keeps s t := by
  have hpoll := (untouched_setPhase s .poll).keeps_trans (keeps_isReadyBegin q (s.setPhase .poll))
  have hsleep := (untouched_setPhase s .sleep).keeps
  unfold loopHead at h
  split at h <;> cases h
  exacts [hpoll, hpoll, hsleep, hsleep, hsleep]

theorem keeps_measureProceed (h : measureProceed q k s = some t) : Keeps s t := by
  unfold measureProceed constructProceed at h
  split at h
  · split at h
    · exact keeps_ptConstructProceed h
    · exact keeps_htConstructProceed h
  · split at h
    · exact keeps_loopHead h
    · split at h <;> cases h
      exact (untouched_setPhase s .fetch).keeps_trans (keeps_fetchBegin ..)

theorem keeps_fetchAnswer (q : Quantity) (st : Int) (d : List Byte) (s : State) : Keeps s (fetchAnswer q st d s) := by
  have hdecode := untouched_setPhase s .decode
  unfold fetchAnswer decoded
  split
  · split
    · exact (hdecode.trans (untouched_setPhase _ .close)).keeps_trans (keeps_closeWith ..)
    · exact hdecode.keeps_trans (keeps_failedAttempt ..)
  · exact keeps_failedAttempt q s
  · exact keeps_failedAttempt q s

/-! ### Every operation's beginning, and its going on -/

theorem keeps_exec {i : Instr} (h : exec i s = .next t) : Keeps s t := by
  cases i
  case tokFlags => cases h
  all_goals obtain rfl := next_inj h
  case tokEnd => exact ⟨rfl, List.Subset.refl _, List.Subset.refl _, fun _ => .inl rfl, id, id⟩
  case tokEscape | tokStart | tokStop => exact (untouched_emit s _).keeps
  case tokAddress | tokRead =>
    split
    · exact keeps_refuse s _
    · exact (untouched_emit s _).keeps
  case tokWrite =>
    split
    · exact (untouched_emit s _).keeps
    · exact keeps_refuse s _
  case encWrite | encReadComb | encSplitPtr | encSplitRead => exact keeps_returnProgram s _
  case decResult | ptDecodeAltitude | ptDecodePressure | ptDecodeTemperature | htConvTemperature | htConvHumidity
    | htDecodeTemperature | htDecodeHumidity => exact keeps_finish s _
  case twos =>
    split
    · exact keeps_refuse s _
    · split
      · exact keeps_refuse s _
      · exact keeps_finish s _
  case chOpen =>
    split
    · exact keeps_fault s _
    · exact keeps_openBegin (keeps_finish s _)
  case chRead | chWrite | chWrite1 | pwSetPointer | pwReadAfterPointer => exact keeps_channelTransact ..
  case chClose =>
    split
    · exact keeps_fault s _
    · exact keeps_closeBegin fun _ => untouched_finish _ _
  case ptConstruct => exact keeps_ptConstructBegin ..
  case ptSelectAltitude | ptSelectBarometric => exact keeps_ptGuard (keeps_ptWrite ..)
  case ptIsReady => exact keeps_ptIsReadyBegin ..
  case ptFetchRaw => exact keeps_ptFetchBegin (keeps_finish s _)
  case ptClose => exact keeps_ptCloseWith ..
  case htConstruct => exact keeps_htConstructBegin ..
  case htIsReady => exact keeps_htIsReadyBegin ..
  case htFetchRaw => exact keeps_htFetchBegin (keeps_finish s _)
  case htClose => exact keeps_htCloseWith ..
  case mPressure | mAltitude | mTemperaturePt | mHumidity | mTemperatureHt => exact keeps_measureBegin ..

theorem keeps_proceed {i : Instr} (h : proceed i k s = some t) : Keeps s t := by
  cases i
  case ptConstruct => exact keeps_ptConstructProceed h
  case htConstruct => exact keeps_htConstructProceed h
  case ptSelectAltitude | ptSelectBarometric => exact keeps_proceedSelect h
  case mPressure | mAltitude | mTemperaturePt | mHumidity | mTemperatureHt => exact keeps_measureProceed h
  all_goals cases h

/-! ### Every answer -/

/-- What consuming an answer keeps: all of `Keeps`, but that a granted claim opens a channel first and a readiness test's answer
first sets the latch to what the test reads. -/
inductive AnswerEffect (s : State) : Answer → State → Prop where
  | keeps {ans : Answer} {t : State} (h : Keeps s t) : AnswerEffect s ans t
  | opens {t : State} (ch : Channel) (h : Keeps (s.setChan ch .opened) t) : AnswerEffect s (.claim true) t
  | ptLatch {st : Int} {d : List Byte} {t : State} (h : Keeps (s.setPtReady (ptReadiness (decodeResult st d))) t) :
      AnswerEffect s (.transport st d) t
  | htLatch {st : Int} {d : List Byte} {t : State} (h : Keeps (s.setHtReady (htReadiness (decodeResult st d))) t) :
      AnswerEffect s (.transport st d) t

theorem answerEffect_openAnswer {ch : Channel} {ok : Bool} {opened failed : State → State}
    (hopened : ∀ u, Keeps u (opened u)) (hfailed : ∀ u, Keeps u (failed u)) :
    AnswerEffect s (.claim ok) (openAnswer ch ok opened failed s) := by
  cases ok with
  | true => exact .opens ch (hopened _)
  | false => exact .keeps (hfailed s)

theorem answerEffect_ptConstructAnswer {m : Mode} {done failed : State → State}
    (h : ptConstructAnswer op m done failed k ans s = some t) (hdone : ∀ u, Keeps u (done u))
    (hfailed : ∀ u, Keeps u (failed u)) : AnswerEffect s ans t := by
  unfold ptConstructAnswer at h
  split at h <;> cases h
  · exact answerEffect_openAnswer (fun u => (untouched_clearPtReady u).keeps_trans (keeps_moveTo ..)) hfailed
  · exact .keeps ((untouched_setPt (by simp)).keeps_trans (keeps_moveTo ..))
  · exact .keeps (keeps_moveTo ..)
  · exact .keeps ((untouched_selectEnd m s).keeps_trans (hdone _))

theorem answerEffect_htConstructAnswer {done failed : State → State}
    (h : htConstructAnswer op done failed k ans s = some t) (hdone : ∀ u, Keeps u (done u))
    (hfailed : ∀ u, Keeps u (failed u)) : AnswerEffect s ans t := by
  unfold htConstructAnswer at h
  split at h <;> cases h
  · exact answerEffect_openAnswer (fun u => (untouched_clearHtReady u).keeps_trans (keeps_moveTo ..)) hfailed
  · exact .keeps (keeps_moveTo ..)
  · exact .keeps ((untouched_setHt (by simp)).keeps_trans (hdone _))

theorem keeps_tested (q : Quantity) (s : State) :
    Keeps s (if driverReady q s then s.moveTo q.op (pollStep q.sensor + 1) else failedAttempt q s) := by
  split
  · exact keeps_moveTo ..
  · exact keeps_failedAttempt q s

theorem answerEffect_pollAnswer (q : Quantity) (st : Int) (d : List Byte) (s : State) :
    AnswerEffect s (.transport st d) (pollAnswer q st d s) := by
  unfold pollAnswer
  split
  · exact .ptLatch (keeps_tested q _)
  · exact .htLatch (keeps_tested q _)

theorem answerEffect_measureAnswer (h : measureAnswer q k ans s = some t) : AnswerEffect s ans t := by
  have hfailed (u : State) : Keeps u (constructFailed q u) := keeps_finish u _
  unfold measureAnswer constructAnswer at h
  split at h
  · split at h
    · exact answerEffect_ptConstructAnswer h (keeps_constructed q) hfailed
    · exact answerEffect_htConstructAnswer h (keeps_constructed q) hfailed
  · split at h
    · split at h <;> cases h
      exact answerEffect_pollAnswer ..
    · split at h
      · split at h <;> cases h
        exact .keeps (keeps_fetchAnswer ..)
      · cases h

theorem answerEffect_answer {i : Instr} (h : answer i k ans s = some t) : AnswerEffect s ans t := by
  cases i
  case chOpen ch =>
    simp only [answer, answerChOpen] at h
    split at h <;> cases h
    exact answerEffect_openAnswer (fun u => keeps_finish u _) fun u => keeps_finish u _
  case chRead | chWrite | chWrite1 | pwReadAfterPointer =>
    simp only [answer, answerTransport] at h
    split at h <;> cases h
    exact .keeps (keeps_finish s _)
  case pwSetPointer =>
    simp only [answer, answerPwSetPointer] at h
    split at h <;> cases h
    exact .keeps (keeps_finish s _)
  case ptConstruct =>
    simp only [answer, answerPtConstruct] at h
    exact answerEffect_ptConstructAnswer h (fun u => keeps_finish u _) fun u => keeps_finish u _
  case htConstruct =>
    simp only [answer, answerHtConstruct] at h
    exact answerEffect_htConstructAnswer h (fun u => keeps_finish u _) fun u => keeps_finish u _
  case ptSelectAltitude | ptSelectBarometric =>
    simp only [answer, answerSelect] at h
    split at h <;> cases h
    · exact .keeps (keeps_moveTo ..)
    · exact .keeps ((untouched_selectEnd _ s).keeps_trans (keeps_finish _ _))
  case ptIsReady =>
    simp only [answer, answerPtIsReady] at h
    split at h <;> cases h
    exact .ptLatch (keeps_finish _ _)
  case htIsReady =>
    simp only [answer, answerHtIsReady] at h
    split at h <;> cases h
    exact .htLatch (keeps_finish _ _)
  case ptFetchRaw | htFetchRaw =>
    simp only [answer, answerFetch] at h
    split at h <;> cases h
    exact .keeps (keeps_finish s _)
  case mPressure | mAltitude | mTemperaturePt | mHumidity | mTemperatureHt => exact answerEffect_measureAnswer h
  all_goals cases h

/-! ### Every step -/

/-- What a step keeps: as `AnswerEffect`, with the answer in the port it is consumed from. -/
inductive StepEffect (s t : State) : Prop where
  | keeps (h : Keeps s t)
  | opens (ch : Channel) (hc : s.claim = .answered true) (h : Keeps (s.setChan ch .opened) t)
  | ptLatch (st : Int) (d : List Byte) (hp : s.port = .answered st d)
      (h : Keeps (s.setPtReady (ptReadiness (decodeResult st d))) t)
  | htLatch (st : Int) (d : List Byte) (hp : s.port = .answered st d)
      (h : Keeps (s.setHtReady (htReadiness (decodeResult st d))) t)

theorem stepEffect_transportStep (s : State) : StepEffect s (transportStep s) := by
  unfold transportStep
  split
  · exact .keeps (untouched_refl s).keeps
  · exact .keeps ⟨rfl, List.Subset.refl _, List.Subset.refl _, fun _ => .inl rfl, id, id⟩

theorem stepEffect_claimStep (s : State) : StepEffect s (claimStep s) := by
  unfold claimStep
  split
  · exact .keeps (untouched_refl s).keeps
  · exact .keeps ⟨rfl, List.Subset.refl _, List.Subset.refl _, fun _ => .inl rfl, id, id⟩

theorem stepEffect_consumeTransport {st : Int} {d : List Byte} (hp : s.port = .answered st d)
    (h : consumeTransport st d s = .next t) : StepEffect s t := by
  unfold consumeTransport at h
  split at h
  · cases answerEffect_answer (orNoPosition_eq_next.1 h) with
    | keeps h => exact .keeps ((untouched_portIdle s).keeps_trans h)
    | ptLatch h => exact .ptLatch st d hp ((untouched_portIdle _).keeps_trans h)
    | htLatch h => exact .htLatch st d hp ((untouched_portIdle _).keeps_trans h)
  · cases h

theorem stepEffect_consumeClaim {ok : Bool} (hc : s.claim = .answered ok) (h : consumeClaim ok s = .next t) :
    StepEffect s t := by
  unfold consumeClaim at h
  split at h
  · cases answerEffect_answer (orNoPosition_eq_next.1 h) with
    | keeps h => exact .keeps ((untouched_claimIdle s).keeps_trans h)
    | opens ch h => exact .opens ch hc (by cases ch <;> exact (untouched_claimIdle _).keeps_trans h)
  · cases h

theorem stepEffect_commandStep (h : commandStep s = .next t) : StepEffect s t := by
  unfold commandStep at h
  split at h
  · cases h
    exact .keeps (untouched_refl s).keeps
  · split at h
    · cases h
      exact .keeps ((untouched_takeFrame s _).keeps_trans (keeps_refuse ..))
    · exact .keeps ((untouched_takeFrame s _).keeps_trans (keeps_exec h))

theorem stepEffect_step (h : step s = .next t) : StepEffect s t := by
  obtain ⟨p, -, heq⟩ | ⟨st, d, hp, heq⟩ | ⟨-, -, heq⟩ | ⟨ok, -, hc, heq⟩ | ⟨op, k, -, -, -, heq⟩ | ⟨-, -, -, heq⟩ :=
    step_cases s <;> rw [heq] at h
  · exact next_inj h ▸ stepEffect_transportStep s
  · exact stepEffect_consumeTransport hp h
  · exact next_inj h ▸ stepEffect_claimStep s
  · exact stepEffect_consumeClaim hc h
  · exact .keeps (keeps_proceed (orNoPosition_eq_next.1 h))
  · exact stepEffect_commandStep h

/-! ### The statements -/

/-- Settles O54: a step only inserts into the two sets. -/
theorem faultsAndRefusalsAreSticky : Obligations.FaultsAndRefusalsAreSticky := by
  intro s t h
  cases stepEffect_step h with
  | keeps h | ptLatch _ _ _ h | htLatch _ _ _ h => exact ⟨h.faults, h.refused⟩
  | opens ch _ h => exact ⟨by simpa using h.faults, by simpa using h.refused⟩

/-- Settles O55: each of a step's effects keeps `cfg`. -/
theorem noStepWritesAParameter : Obligations.NoStepWritesAParameter := by
  intro s t h
  cases stepEffect_step h with
  | keeps h | ptLatch _ _ _ h | htLatch _ _ _ h => exact h.cfg
  | opens ch _ h => simpa using h.cfg

theorem closed_of_ne_opened {c : ChannelSt} (h : c ≠ .opened) : c = .closed := by
  cases c with
  | closed => rfl
  | opened => exact absurd rfl h

theorem opened_of_ne_closed {c : ChannelSt} (h : c ≠ .closed) : c = .opened := by
  cases c with
  | closed => exact absurd rfl h
  | opened => rfl

/-- A channel that changes while nothing opens it closes with a Release. -/
theorem Keeps.chan_of_ne (h : Keeps s t) {ch : Channel} (hne : t.chan ch ≠ s.chan ch) :
    s.chan ch = .opened ∧ t.chan ch = .closed ∧ t.io.trace = s.io.trace ++ [.release] :=
  (h.chan ch).resolve_left hne

/-- Settles O57: the only other change is the opening of the channel claimed. -/
theorem channelsChangeOnlyByClaimAndRelease : Obligations.ChannelsChangeOnlyByClaimAndRelease := by
  intro s t ch hs hne
  cases stepEffect_step hs with
  | keeps h | ptLatch _ _ _ h | htLatch _ _ _ h => exact .inr (h.chan_of_ne hne)
  | opens c hclaim h =>
    obtain rfl | rfl := eq_or_eq_otherChannel ch c
    · obtain ho | ⟨-, hc, htr⟩ := h.chan ch
      · rw [State.chan_setChan_same] at ho
        exact .inl ⟨closed_of_ne_opened fun h' => hne (ho.trans h'.symm), ho, hclaim⟩
      · exact .inr ⟨opened_of_ne_closed fun h' => hne (hc.trans h'.symm), hc, by simpa using htr⟩
    · exact .inr (by simpa using h.chan_of_ne (ch := otherChannel c) (by simpa using hne))

theorem Keeps.ptReady_of_false (h : Keeps s t) (hn : s.pt.ready = false) : t.pt.ready ≠ true :=
  fun hr => by simp [h.ptReady hr] at hn

theorem Keeps.htReady_of_false (h : Keeps s t) (hn : s.ht.ready = false) : t.ht.ready ≠ true :=
  fun hr => by simp [h.htReady hr] at hn

/-- Settles O58: only a readiness test's answer can set a latch, and then to what the test reads. -/
theorem latchesAreSetOnlyByAReadyAnswer : Obligations.LatchesAreSetOnlyByAReadyAnswer := by
  intro s t hs
  cases stepEffect_step hs with
  | keeps h => exact ⟨fun hn hr => absurd hr (h.ptReady_of_false hn), fun hn hr => absurd hr (h.htReady_of_false hn)⟩
  | opens c _ h =>
    exact ⟨fun hn hr => absurd hr (h.ptReady_of_false (by simpa using hn)),
      fun hn hr => absurd hr (h.htReady_of_false (by simpa using hn))⟩
  | ptLatch st d hp h =>
    exact ⟨fun _ hr => ⟨st, d, hp, h.ptReady hr⟩, fun hn hr => absurd hr (h.htReady_of_false hn)⟩
  | htLatch st d hp h =>
    exact ⟨fun hn hr => absurd hr (h.ptReady_of_false hn), fun _ hr => ⟨st, d, hp, h.htReady hr⟩⟩

end Sys2Proof.Machine

/-! ## Frames, reset and waiting -/

namespace Sys2Proof.Machine

theorem step_of_quiet {s : State} (h : s.quiet) : step s = commandStep s := by
  obtain ⟨hseq, hport, hclaim⟩ := h
  simp [step, hseq, hport, hclaim]

theorem step_of_busy {s : State} {prog : List Byte} (h : s.port = .busy prog) : step s = .next (transportStep s) := by
  simp [step, h]

theorem step_of_claimBusy {s : State} (hp : s.port = .idle) (hc : s.claim = .busy) : step s = .next (claimStep s) := by
  simp [step, hp, hc]

theorem transportStep_of_nil {s : State} (h : s.io.answers = []) : transportStep s = s := by simp [transportStep, h]

theorem claimStep_of_nil {s : State} (h : s.io.claims = []) : claimStep s = s := by simp [claimStep, h]

theorem commandStep_of_nil {s : State} (h : s.io.frames = []) : commandStep s = .next s := by simp [commandStep, h]

theorem commandStep_of_decodes {s : State} {frame : List Byte} {rest : List (List Byte)} {i : Instr}
    (hf : s.io.frames = frame :: rest) (hd : decodeFrame frame = .ok i) : commandStep s = exec i (takeFrame s rest) := by
  simp [commandStep, hf, hd]

/-- Settles O7: with nothing running the step is the Caller's, which takes the frame and begins what it decodes to. -/
theorem stepBeginsTheDecodedOperation : Obligations.StepBeginsTheDecodedOperation := by
  intro s frame rest i hq hf hd
  exact (step_of_quiet hq).trans (commandStep_of_decodes hf hd)

/-- Settles O50: each field is read off `State.reset`, of which the reset event replaces `cfg` and `io` alone. -/
theorem resetGivesEveryFieldItsValue : Obligations.ResetGivesEveryFieldItsValue := by
  rintro s t (rfl | rfl)
  · exact ⟨rfl, rfl, rfl, rfl, rfl, rfl, rfl, rfl, rfl, rfl, rfl, rfl, fun _ => ⟨rfl, rfl⟩⟩
  · refine ⟨rfl, rfl, rfl, rfl, rfl, rfl, rfl, rfl, rfl, rfl, rfl, rfl, fun h => ?_⟩
    rw [h]
    exact ⟨rfl, rfl⟩

/-- Settles O59: a Busy port takes the next answer there is, and without one its step is the identity. -/
theorem portsAnswerOrWait : Obligations.PortsAnswerOrWait := by
  intro s prog
  refine ⟨fun hp st d rest ha => step_transport hp ha, fun hp ha => ?_, fun hp hc ok rest ha => step_claim hp hc ha,
    fun hp hc ha => ?_, fun hq hf => ?_⟩
  · rw [step_of_busy hp, transportStep_of_nil ha]
  · rw [step_of_claimBusy hp hc, claimStep_of_nil ha]
  · rw [step_of_quiet hq, commandStep_of_nil hf]

end Sys2Proof.Machine

/-! ## Command frames

The field readers of Decode.lean read exactly what the field writers write: from written bytes (Laws/Encoding.lean), and, here,
from no other bytes, with `BadOperand` as their only refusal. -/

namespace Sys2Proof

/-! ### The bytes a field was read from -/

theorem takeByte_eq_ok {bs rest : List Byte} {b : Byte} : takeByte bs = .ok (b, rest) ↔ bs = b :: rest := by
  cases bs <;> simp [takeByte]

theorem takeChannel_eq_ok {bs rest : List Byte} {ch : Channel} : takeChannel bs = .ok (ch, rest) ↔ bs = ch.code :: rest := by
  refine ⟨fun h => ?_, fun h => h ▸ takeChannel_code ch rest⟩
  cases bs with
  | nil => cases h
  | cons b bs =>
    simp only [takeChannel] at h
    split_ifs at h with h0 h1 <;> cases h
    · rw [h0]; rfl
    · rw [h1]; rfl

theorem takeMode_eq_ok {bs rest : List Byte} {m : Mode} : takeMode bs = .ok (m, rest) ↔ bs = m.code :: rest := by
  refine ⟨fun h => ?_, fun h => h ▸ takeMode_code m rest⟩
  cases bs with
  | nil => cases h
  | cons b bs =>
    simp only [takeMode] at h
    split_ifs at h with h1 h2 <;> cases h
    · rw [h1]; rfl
    · rw [h2]; rfl

theorem takeBytes_eq_ok {n : Nat} {bs v rest : List Byte} :
    takeBytes n bs = .ok (v, rest) ↔ v.length = n ∧ bs = v ++ rest := by
  refine ⟨fun h => ?_, fun ⟨hn, hbs⟩ => hbs ▸ takeBytes_append hn rest⟩
  unfold takeBytes at h
  split_ifs at h with hn
  cases h
  exact ⟨List.length_take_of_le hn, (List.take_append_drop n bs).symm⟩

theorem takeCounted_eq_ok {bs p rest : List Byte} :
    takeCounted bs = .ok (p, rest) ↔ p.length ≤ 255 ∧ bs = encodeCounted p ++ rest := by
  refine ⟨fun h => ?_, fun ⟨hp, hbs⟩ => hbs ▸ takeCounted_encode hp rest⟩
  cases bs with
  | nil => cases h
  | cons n bs =>
    obtain ⟨hlen, rfl⟩ := takeBytes_eq_ok.1 h
    have hn := n.isLt
    exact ⟨by omega, by simp [encodeCounted, hlen]⟩

theorem takeValue_eq_ok {w v : Nat} {bs rest : List Byte} :
    takeValue w bs = .ok (v, rest) ↔ v < 256 ^ valueBytes w ∧ bs = bytesBE (valueBytes w) v ++ rest := by
  refine ⟨fun h => ?_, fun ⟨hv, hbs⟩ => hbs ▸ takeValue_encode hv rest⟩
  obtain ⟨x, bs', hx, hv⟩ := andThen_eq_ok.1 h
  obtain ⟨hlen, rfl⟩ := takeBytes_eq_ok.1 hx
  cases hv
  rw [← hlen]
  exact ⟨natOfBE_lt x, by rw [bytesBE_natOfBE]⟩

theorem takeStatus_eq_ok {bs rest : List Byte} {st : Int} :
    takeStatus bs = .ok (st, rest) ↔
      (-(2 ^ 31) ≤ st ∧ st < 2 ^ 31) ∧ bs = bytesBE 4 (BitVec.ofInt 32 st).toNat ++ rest := by
  refine ⟨fun h => ?_, fun ⟨⟨h1, h2⟩, hbs⟩ => hbs ▸ takeStatus_encode h1 h2 rest⟩
  obtain ⟨x, bs', hx, hv⟩ := andThen_eq_ok.1 h
  obtain ⟨hlen, rfl⟩ := takeBytes_eq_ok.1 hx
  cases hv
  have hlt : natOfBE x < 2 ^ 32 := by simpa [hlen] using natOfBE_lt x
  refine ⟨⟨BitVec.le_toInt _, BitVec.toInt_lt⟩, ?_⟩
  rw [BitVec.ofInt_toInt, BitVec.toNat_ofNat, Nat.mod_eq_of_lt hlt, ← hlen, bytesBE_natOfBE]

/-! ### Groups of fields -/

section
variable {bs rest : List Byte} {i : Instr}

theorem writeOperands_eq_ok {f : Nat → Byte → List Byte → Instr} : writeOperands f bs = .ok (i, rest) ↔
    ∃ (a r : Byte) (p : List Byte), p.length ≤ 255 ∧ bs = a :: r :: (encodeCounted p ++ rest) ∧ i = f a.toNat r p := by
  simp only [writeOperands, andThen_eq_ok, takeByte_eq_ok, takeCounted_eq_ok]
  constructor
  · rintro ⟨a, _, rfl, r, _, rfl, p, _, ⟨hp, rfl⟩, h⟩
    cases h
    exact ⟨a, r, p, hp, rfl, rfl⟩
  · rintro ⟨a, r, p, hp, rfl, rfl⟩
    exact ⟨a, _, rfl, r, _, rfl, p, _, ⟨hp, rfl⟩, rfl⟩

theorem threeBytes_eq_ok {f : Byte → Byte → Byte → Instr} : threeBytes f bs = .ok (i, rest) ↔
    ∃ x y z, bs = x :: y :: z :: rest ∧ i = f x y z := by
  simp only [threeBytes, andThen_eq_ok, takeByte_eq_ok]
  constructor
  · rintro ⟨x, _, rfl, y, _, rfl, z, _, rfl, h⟩
    cases h
    exact ⟨x, y, z, rfl, rfl⟩
  · rintro ⟨x, y, z, rfl, rfl⟩
    exact ⟨x, _, rfl, y, _, rfl, z, _, rfl, rfl⟩

theorem twoBytes_eq_ok {f : Byte → Byte → Instr} : twoBytes f bs = .ok (i, rest) ↔
    ∃ x y, bs = x :: y :: rest ∧ i = f x y := by
  simp only [twoBytes, andThen_eq_ok, takeByte_eq_ok]
  constructor
  · rintro ⟨x, _, rfl, y, _, rfl, h⟩
    cases h
    exact ⟨x, y, rfl, rfl⟩
  · rintro ⟨x, y, rfl, rfl⟩
    exact ⟨x, _, rfl, y, _, rfl, rfl⟩

theorem countedBytes_eq_ok {f : List Byte → Instr} : countedBytes f bs = .ok (i, rest) ↔
    ∃ p, p.length ≤ 255 ∧ bs = encodeCounted p ++ rest ∧ i = f p := by
  simp only [countedBytes, andThen_eq_ok, takeCounted_eq_ok]
  constructor
  · rintro ⟨p, _, ⟨hp, rfl⟩, h⟩
    cases h
    exact ⟨p, hp, rfl, rfl⟩
  · rintro ⟨p, hp, rfl, rfl⟩
    exact ⟨p, _, ⟨hp, rfl⟩, rfl⟩

theorem plain_eq_ok {j : Instr} : plain j bs = .ok (i, rest) ↔ bs = rest ∧ i = j := by
  simp only [plain, Except.ok.injEq, Prod.mk.injEq, and_comm, eq_comm]

end

/-! ### Operands that fit their fields -/

@[simp] theorem byteFits_toNat (b : Byte) : byteFits b.toNat = true := by simpa [byteFits] using b.isLt

theorem byteFits_iff {n : Nat} : byteFits n = true ↔ n < 256 := by simp [byteFits]

theorem countFits_iff {bs : List Byte} : countFits bs = true ↔ bs.length ≤ 255 := by simp [countFits]

theorem statusFits_iff {st : Int} : statusFits st = true ↔ -(2 ^ 31) ≤ st ∧ st < 2 ^ 31 := by simp [statusFits]

theorem twosFits_iff {w : Nat} {v : Int} : twosFits w v = true ↔ (w < 256 ∧ 0 ≤ v) ∧ v < 256 ^ valueBytes w := by
  simp [twosFits, byteFits, valueBytes]

/-! ### The operation of an opcode -/

/-- One operation for each opcode of the map, in its order. -/
def sampleOperations : List Instr :=
  [.encWrite 0 0 [], .encReadComb 0 0 0, .encSplitPtr 0 0, .encSplitRead 0 0, .decResult 0 [], .chOpen .P,
   .chRead .P 0 0 0, .chWrite .P 0 0 [], .chWrite1 .P 0 0 0, .chClose .P, .pwSetPointer 0 0, .pwReadAfterPointer 0 0,
   .ptConstruct .altitude, .ptSelectAltitude, .ptSelectBarometric, .ptIsReady, .ptFetchRaw, .ptDecodeAltitude [],
   .ptDecodePressure [], .ptDecodeTemperature [], .ptClose, .htConstruct, .htIsReady, .htFetchRaw,
   .htConvTemperature 0 0, .htConvHumidity 0 0, .htDecodeTemperature [], .htDecodeHumidity [], .htClose, .twos 0 0,
   .mPressure, .mAltitude, .mTemperaturePt, .mHumidity, .mTemperatureHt]

theorem map_opcode_sampleOperations : sampleOperations.map opcode = commandOpcodes := rfl

/-- The map's opcodes are those of the operations, so a claim about them splits along the constructors of `Instr`. -/
theorem mem_commandOpcodes {op : Byte} : op ∈ commandOpcodes ↔ ∃ j : Instr, j.isToken = false ∧ opcode j = op := by
  constructor
  · intro h
    rw [← map_opcode_sampleOperations] at h
    obtain ⟨j, hj, rfl⟩ := List.mem_map.1 h
    exact ⟨j, (by decide : ∀ j ∈ sampleOperations, j.isToken = false) j hj, rfl⟩
  · rintro ⟨j, hj, rfl⟩
    cases j
    case tokEnd | tokEscape | tokStart | tokStop | tokAddress | tokFlags | tokRead | tokWrite => cases hj
    all_goals simp [opcode, commandOpcodes]

theorem decodeOperands_of_notMem {op : Byte} (h : op ∉ commandOpcodes) (bs : List Byte) :
    decodeOperands op bs = .error .unknownOpcode := by
  have hn : op.toNat ∉ commandOpcodes.map BitVec.toNat := by
    rwa [List.mem_map_of_injective fun _ _ => BitVec.eq_of_toNat_eq]
  unfold decodeOperands
  split
  case h_36 => rfl
  all_goals
    rename_i ho
    exact absurd (ho ▸ by decide) hn

/-! ### Reading back what was written, and only that -/

theorem decodeOperands_encodeOperands (e : Bool) {i : Instr} (ht : i.isToken = false) (hw : i.wf = true) (rest : List Byte) :
    decodeOperands (opcode i) (encodeOperands e i ++ rest) = .ok (i, rest) := by
  cases i <;> simp only [Instr.wf, Bool.and_eq_true, byteFits_iff, countFits_iff, statusFits_iff, twosFits_iff] at hw
  case tokEnd | tokEscape | tokStart | tokStop | tokAddress | tokFlags | tokRead | tokWrite => cases ht
  case encWrite a r p => exact writeOperands_eq_ok.2 ⟨byte a, r, p, hw.2, rfl, by rw [byte_toNat hw.1]⟩
  case encReadComb a r l =>
    exact threeBytes_eq_ok.2 ⟨byte a, r, byte l, rfl, by rw [byte_toNat hw.1, byte_toNat hw.2]⟩
  case encSplitPtr a r | pwSetPointer a r => exact twoBytes_eq_ok.2 ⟨byte a, r, rfl, by rw [byte_toNat hw]⟩
  case encSplitRead a l | pwReadAfterPointer a l =>
    exact twoBytes_eq_ok.2 ⟨byte a, byte l, rfl, by rw [byte_toNat hw.1, byte_toNat hw.2]⟩
  case decResult st d =>
    change andThen (takeStatus (encodeOperands e (.decResult st d) ++ rest)) (fun st bs => countedBytes (.decResult st) bs) = _
    exact andThen_eq_ok.2 ⟨st, encodeCounted d ++ rest, takeStatus_eq_ok.2 ⟨hw.1, List.append_assoc ..⟩,
      countedBytes_eq_ok.2 ⟨d, hw.2, rfl, rfl⟩⟩
  case chOpen ch | chClose ch => exact andThen_eq_ok.2 ⟨ch, rest, takeChannel_eq_ok.2 rfl, rfl⟩
  case chRead ch a r l =>
    exact andThen_eq_ok.2 ⟨ch, _, takeChannel_eq_ok.2 rfl,
      threeBytes_eq_ok.2 ⟨byte a, r, byte l, rfl, by rw [byte_toNat hw.1, byte_toNat hw.2]⟩⟩
  case chWrite ch a r p =>
    exact andThen_eq_ok.2 ⟨ch, _, takeChannel_eq_ok.2 rfl,
      writeOperands_eq_ok.2 ⟨byte a, r, p, hw.2, rfl, by rw [byte_toNat hw.1]⟩⟩
  case chWrite1 ch a r b =>
    exact andThen_eq_ok.2 ⟨ch, _, takeChannel_eq_ok.2 rfl, threeBytes_eq_ok.2 ⟨byte a, r, b, rfl, by rw [byte_toNat hw]⟩⟩
  case ptConstruct m => exact andThen_eq_ok.2 ⟨m, rest, takeMode_eq_ok.2 rfl, rfl⟩
  case ptDecodeAltitude raw | ptDecodePressure raw | ptDecodeTemperature raw | htDecodeTemperature raw
    | htDecodeHumidity raw => exact countedBytes_eq_ok.2 ⟨raw, hw, rfl, rfl⟩
  case htConvTemperature hi lo | htConvHumidity hi lo => exact twoBytes_eq_ok.2 ⟨hi, lo, rfl, rfl⟩
  case twos w v =>
    obtain ⟨⟨hbyte, hpos⟩, hlt⟩ := hw
    lift v to Nat using hpos
    change andThen (takeValue (byte w).toNat _) (fun v bs => plain (.twos (byte w).toNat v) bs) = _
    rw [byte_toNat hbyte]
    exact andThen_eq_ok.2 ⟨v, rest, takeValue_eq_ok.2 ⟨by exact_mod_cast hlt, rfl⟩, rfl⟩
  all_goals rfl

/-- `i` is an operation with the opcode `op` and with operands that fit, which are the bytes of `bs` before `rest`. -/
def IsReadFrom (op : Byte) (bs rest : List Byte) (i : Instr) : Prop :=
  i.isToken = false ∧ i.wf = true ∧ opcode i = op ∧ ∀ e, encodeOperands e i ++ rest = bs

theorem isReadFrom_of_decodeOperands {j i : Instr} (hj : j.isToken = false) {bs rest : List Byte}
    (h : decodeOperands (opcode j) bs = .ok (i, rest)) : IsReadFrom (opcode j) bs rest i := by
  cases j
  case tokEnd | tokEscape | tokStart | tokStop | tokAddress | tokFlags | tokRead | tokWrite => cases hj
  case encWrite =>
    obtain ⟨a, r, p, hp, rfl, rfl⟩ := writeOperands_eq_ok.1 h
    exact ⟨rfl, by simp [Instr.wf, countFits_iff, hp], rfl, by simp [encodeOperands]⟩
  case encReadComb =>
    obtain ⟨a, r, l, rfl, rfl⟩ := threeBytes_eq_ok.1 h
    exact ⟨rfl, by simp [Instr.wf], rfl, by simp [encodeOperands]⟩
  case encSplitPtr | encSplitRead | pwSetPointer | pwReadAfterPointer | htConvTemperature | htConvHumidity =>
    obtain ⟨x, y, rfl, rfl⟩ := twoBytes_eq_ok.1 h
    exact ⟨rfl, by simp [Instr.wf], rfl, by simp [encodeOperands]⟩
  case decResult =>
    obtain ⟨st, bs', hst, hd⟩ := andThen_eq_ok.1 h
    obtain ⟨hfits, rfl⟩ := takeStatus_eq_ok.1 hst
    obtain ⟨d, hlen, rfl, rfl⟩ := countedBytes_eq_ok.1 hd
    exact ⟨rfl, by simp only [Instr.wf, statusFits_iff.2 hfits, countFits_iff.2 hlen, Bool.and_self], rfl,
      fun _ => List.append_assoc ..⟩
  case chOpen | chClose =>
    obtain ⟨ch, bs', hch, hrest⟩ := andThen_eq_ok.1 h
    obtain ⟨rfl, rfl⟩ := plain_eq_ok.1 hrest
    exact ⟨rfl, rfl, rfl, fun _ => (takeChannel_eq_ok.1 hch).symm⟩
  case chRead | chWrite1 =>
    obtain ⟨ch, bs', hch, hrest⟩ := andThen_eq_ok.1 h
    obtain rfl := takeChannel_eq_ok.1 hch
    obtain ⟨x, y, z, rfl, rfl⟩ := threeBytes_eq_ok.1 hrest
    exact ⟨rfl, by simp [Instr.wf], rfl, by simp [encodeOperands]⟩
  case chWrite =>
    obtain ⟨ch, bs', hch, hrest⟩ := andThen_eq_ok.1 h
    obtain rfl := takeChannel_eq_ok.1 hch
    obtain ⟨a, r, p, hp, rfl, rfl⟩ := writeOperands_eq_ok.1 hrest
    exact ⟨rfl, by simp [Instr.wf, countFits_iff, hp], rfl, by simp [encodeOperands]⟩
  case ptConstruct =>
    obtain ⟨m, bs', hm, hrest⟩ := andThen_eq_ok.1 h
    obtain ⟨rfl, rfl⟩ := plain_eq_ok.1 hrest
    exact ⟨rfl, rfl, rfl, fun _ => (takeMode_eq_ok.1 hm).symm⟩
  case ptDecodeAltitude | ptDecodePressure | ptDecodeTemperature | htDecodeTemperature | htDecodeHumidity =>
    obtain ⟨p, hp, rfl, rfl⟩ := countedBytes_eq_ok.1 h
    exact ⟨rfl, countFits_iff.2 hp, rfl, fun _ => rfl⟩
  case twos =>
    obtain ⟨w, bs', hw, hrest⟩ := andThen_eq_ok.1 h
    obtain rfl := takeByte_eq_ok.1 hw
    obtain ⟨v, bs'', hv, hrest'⟩ := andThen_eq_ok.1 hrest
    obtain ⟨hlt, rfl⟩ := takeValue_eq_ok.1 hv
    obtain ⟨rfl, rfl⟩ := plain_eq_ok.1 hrest'
    exact ⟨rfl, twosFits_iff.2 ⟨⟨w.isLt, Int.natCast_nonneg v⟩, by exact_mod_cast hlt⟩, rfl, by simp [encodeOperands]⟩
  all_goals
    obtain ⟨rfl, rfl⟩ := plain_eq_ok.1 h
    exact ⟨rfl, rfl, rfl, fun _ => rfl⟩

/-! ### Refusals

A field that cannot be read is refused as `BadOperand`, never as `UnknownOpcode`. -/

section
variable {α β : Type} {bs : List Byte}

theorem andThen_ne_unknownOpcode {p : Parse α} {f : α → List Byte → Parse β} (hp : p ≠ .error .unknownOpcode)
    (hf : ∀ x bs, f x bs ≠ .error .unknownOpcode) : andThen p f ≠ .error .unknownOpcode := by
  cases p with
  | error e => exact fun h => hp (by cases h; rfl)
  | ok v => exact hf v.1 v.2

theorem takeByte_ne_unknownOpcode : takeByte bs ≠ .error .unknownOpcode := by
  cases bs <;> simp [takeByte]

theorem takeChannel_ne_unknownOpcode : takeChannel bs ≠ .error .unknownOpcode := by
  cases bs with
  | nil => simp [takeChannel]
  | cons b bs => simp only [takeChannel]; split_ifs <;> simp

theorem takeMode_ne_unknownOpcode : takeMode bs ≠ .error .unknownOpcode := by
  cases bs with
  | nil => simp [takeMode]
  | cons b bs => simp only [takeMode]; split_ifs <;> simp

theorem takeBytes_ne_unknownOpcode {n : Nat} : takeBytes n bs ≠ .error .unknownOpcode := by
  unfold takeBytes; split_ifs <;> simp

theorem takeCounted_ne_unknownOpcode : takeCounted bs ≠ .error .unknownOpcode := by
  cases bs with
  | nil => simp [takeCounted]
  | cons n bs => exact takeBytes_ne_unknownOpcode

theorem takeStatus_ne_unknownOpcode : takeStatus bs ≠ .error .unknownOpcode :=
  andThen_ne_unknownOpcode takeBytes_ne_unknownOpcode nofun

theorem takeValue_ne_unknownOpcode {w : Nat} : takeValue w bs ≠ .error .unknownOpcode :=
  andThen_ne_unknownOpcode takeBytes_ne_unknownOpcode nofun

theorem writeOperands_ne_unknownOpcode {f : Nat → Byte → List Byte → Instr} :
    writeOperands f bs ≠ .error .unknownOpcode :=
  andThen_ne_unknownOpcode takeByte_ne_unknownOpcode fun _ _ =>
    andThen_ne_unknownOpcode takeByte_ne_unknownOpcode fun _ _ =>
      andThen_ne_unknownOpcode takeCounted_ne_unknownOpcode nofun

theorem threeBytes_ne_unknownOpcode {f : Byte → Byte → Byte → Instr} : threeBytes f bs ≠ .error .unknownOpcode :=
  andThen_ne_unknownOpcode takeByte_ne_unknownOpcode fun _ _ =>
    andThen_ne_unknownOpcode takeByte_ne_unknownOpcode fun _ _ =>
      andThen_ne_unknownOpcode takeByte_ne_unknownOpcode nofun

theorem twoBytes_ne_unknownOpcode {f : Byte → Byte → Instr} : twoBytes f bs ≠ .error .unknownOpcode :=
  andThen_ne_unknownOpcode takeByte_ne_unknownOpcode fun _ _ =>
    andThen_ne_unknownOpcode takeByte_ne_unknownOpcode nofun

theorem countedBytes_ne_unknownOpcode {f : List Byte → Instr} : countedBytes f bs ≠ .error .unknownOpcode :=
  andThen_ne_unknownOpcode takeCounted_ne_unknownOpcode nofun

end

theorem decodeOperands_ne_unknownOpcode {j : Instr} (hj : j.isToken = false) (bs : List Byte) :
    decodeOperands (opcode j) bs ≠ .error .unknownOpcode := by
  cases j
  case tokEnd | tokEscape | tokStart | tokStop | tokAddress | tokFlags | tokRead | tokWrite => cases hj
  case encWrite => exact writeOperands_ne_unknownOpcode
  case encReadComb => exact threeBytes_ne_unknownOpcode
  case encSplitPtr | encSplitRead | pwSetPointer | pwReadAfterPointer | htConvTemperature | htConvHumidity =>
    exact twoBytes_ne_unknownOpcode
  case decResult => exact andThen_ne_unknownOpcode takeStatus_ne_unknownOpcode fun _ _ => countedBytes_ne_unknownOpcode
  case chOpen | chClose => exact andThen_ne_unknownOpcode takeChannel_ne_unknownOpcode nofun
  case chRead | chWrite1 =>
    exact andThen_ne_unknownOpcode takeChannel_ne_unknownOpcode fun _ _ => threeBytes_ne_unknownOpcode
  case chWrite => exact andThen_ne_unknownOpcode takeChannel_ne_unknownOpcode fun _ _ => writeOperands_ne_unknownOpcode
  case ptConstruct => exact andThen_ne_unknownOpcode takeMode_ne_unknownOpcode nofun
  case ptDecodeAltitude | ptDecodePressure | ptDecodeTemperature | htDecodeTemperature | htDecodeHumidity =>
    exact countedBytes_ne_unknownOpcode
  case twos =>
    exact andThen_ne_unknownOpcode takeByte_ne_unknownOpcode fun _ _ =>
      andThen_ne_unknownOpcode takeValue_ne_unknownOpcode nofun
  all_goals nofun

theorem decodeOperands_eq_unknownOpcode {op : Byte} {bs : List Byte} :
    decodeOperands op bs = .error .unknownOpcode ↔ op ∉ commandOpcodes := by
  refine ⟨fun h hop => ?_, fun h => decodeOperands_of_notMem h bs⟩
  obtain ⟨j, hj, rfl⟩ := mem_commandOpcodes.1 hop
  exact decodeOperands_ne_unknownOpcode hj bs h

/-! ### Frames -/

/-- The frame of an operation is read back from the front of any byte sequence. -/
theorem decodeStream_encode (e : Bool) {i : Instr} (ht : i.isToken = false) (hw : i.wf = true) (rest : List Byte) :
    decodeStream (encode e i ++ rest) = .ok (i, rest) :=
  decodeOperands_encodeOperands e ht hw rest

theorem decodeFrame_eq_ok {frame : List Byte} {i : Instr} : decodeFrame frame = .ok i ↔ decodeStream frame = .ok (i, []) := by
  unfold decodeFrame
  split <;> simp_all

theorem decodeFrame_eq_unknownOpcode {frame : List Byte} :
    decodeFrame frame = .error .unknownOpcode ↔ decodeStream frame = .error .unknownOpcode := by
  unfold decodeFrame
  split <;> simp_all

theorem decodeFrame_of_trailing {frame rest : List Byte} {i : Instr} {x : Byte}
    (h : decodeStream frame = .ok (i, x :: rest)) : decodeFrame frame = .error .badOperand := by
  simp [decodeFrame, h]

/-- A frame that neither decodes nor has an unknown opcode is refused as `BadOperand`. -/
theorem decodeFrame_eq_badOperand {frame : List Byte} (hok : ∀ i, decodeFrame frame ≠ .ok i)
    (hop : decodeFrame frame ≠ .error .unknownOpcode) : decodeFrame frame = .error .badOperand := by
  cases h : decodeFrame frame with
  | ok i => exact absurd h (hok i)
  | error err =>
    cases err with
    | unknownOpcode => exact absurd h hop
    | badOperand => rfl

/-- Settles O1: reading the operands an operation writes gives them back and leaves nothing. -/
theorem commandFrameRoundTrip : Obligations.CommandFrameRoundTrip := by
  intro e i ht hw
  exact decodeFrame_eq_ok.2 (by simpa using decodeStream_encode e ht hw [])

/-- Settles O2: every field read is the field its writer wrote. -/
theorem decodedFrameIsTheOperationsFrame : Obligations.DecodedFrameIsTheOperationsFrame := by
  intro e frame i h
  cases frame with
  | nil => cases h
  | cons op bs =>
    have hd : decodeOperands op bs = .ok (i, []) := decodeFrame_eq_ok.1 h
    by_cases hop : op ∈ commandOpcodes
    · obtain ⟨j, hj, rfl⟩ := mem_commandOpcodes.1 hop
      obtain ⟨ht, hw, ho, hbs⟩ := isReadFrom_of_decodeOperands hj hd
      exact ⟨ht, hw, by rw [encode, ho, ← hbs e, List.append_nil]⟩
    · rw [decodeOperands_of_notMem hop] at hd
      cases hd

/-- Settles O5: only byte 0 can make an opcode unknown, since a field that cannot be read is a `BadOperand`. -/
theorem unknownOpcodeExactlyOutsideTheMap : Obligations.UnknownOpcodeExactlyOutsideTheMap := by
  intro frame
  rw [decodeFrame_eq_unknownOpcode]
  cases frame with
  | nil => simp [decodeStream]
  | cons op bs => simp [decodeStream, decodeOperands_eq_unknownOpcode]

/-- A cut frame is not the frame of an operation, because a whole one is read to its end whatever follows it. -/
theorem decodeFrame_take_encode_ne_ok (e : Bool) {i : Instr} (ht : i.isToken = false) (hw : i.wf = true) {n : Nat}
    (hn : n < (encode e i).length) (j : Instr) : decodeFrame ((encode e i).take n) ≠ .ok j := by
  intro h
  obtain ⟨htj, hwj, hj⟩ := decodedFrameIsTheOperationsFrame e _ j h
  have hcut := decodeStream_encode e htj hwj ((encode e i).drop n)
  have hwhole := decodeStream_encode e ht hw []
  rw [List.append_nil] at hwhole
  rw [hj, List.take_append_drop, hwhole] at hcut
  simp only [Except.ok.injEq, Prod.mk.injEq] at hcut
  have := List.drop_eq_nil_iff.1 hcut.2.symm
  omega

/-- Settles O6: a cut frame is no operation's frame (O2) and has a known opcode or none (O5); a longer one leaves bytes. -/
theorem cutOrOverlongFramesAreBadOperand : Obligations.CutOrOverlongFramesAreBadOperand := by
  intro e i ht hw
  refine ⟨fun n hn => decodeFrame_eq_badOperand (decodeFrame_take_encode_ne_ok e ht hw hn) fun h => ?_,
    fun x xs => decodeFrame_of_trailing (decodeStream_encode e ht hw (x :: xs))⟩
  obtain ⟨op, bs, hcut, hop⟩ := (unknownOpcodeExactlyOutsideTheMap _).1 h
  cases n with
  | zero => cases hcut
  | succ n =>
    obtain ⟨rfl, -⟩ := List.cons.inj hcut
    exact hop (mem_commandOpcodes.2 ⟨i, ht, rfl⟩)

/-- Settles O4: each frame is evaluated. -/
theorem writtenFramesDecode : Obligations.WrittenFramesDecode := by
  unfold Obligations.WrittenFramesDecode
  decide

end Sys2Proof

/-! ## Tokens and shapes -/

namespace Sys2Proof

theorem takeCountedWrite_counted {r : Byte} {p : List Byte} (h1 : 1 ≤ p.length) (h2 : p.length ≤ 254)
    (rest : List Byte) : takeCountedWrite (byte (p.length + 1) :: r :: (p ++ rest)) = some (.counted r p, rest) := by
  have hc : (byte (p.length + 1)).toNat = p.length + 1 := byte_toNat (by omega)
  simp [takeCountedWrite, hc, h1]

theorem takeWriteArg_pointer {sh : Shape} (hsh : sh = .RC ∨ sh = .SP) (e : Bool) (r : Byte) (rest : List Byte) :
    takeWriteArg sh e ((WriteArg.pointer r).encode e ++ rest) = some (.pointer r, rest) := by
  obtain rfl | rfl := hsh <;> rfl

theorem takeWriteArg_counted (e : Bool) {r : Byte} {p : List Byte} (h1 : 1 ≤ p.length) (h2 : p.length ≤ 254)
    (rest : List Byte) : takeWriteArg .W e ((WriteArg.counted r p).encode e ++ rest) = some (.counted r p, rest) := by
  cases e <;> exact takeCountedWrite_counted h1 h2 rest

theorem decodeToken_tokAddress (sh : Shape) (e : Bool) {a : Nat} (ha : a < 128) (rest : List Byte) :
    decodeToken sh e (tokADDRESS :: byte a :: rest) = some (.tokAddress a, rest) := by
  have hb : (byte a).toNat = a := byte_toNat (by omega)
  simp [decodeToken, hb, ha]

theorem decodeToken_tokRead (sh : Shape) (e : Bool) {c : Nat} (h1 : 1 ≤ c) (h2 : c ≤ 255) (rest : List Byte) :
    decodeToken sh e (tokREAD :: byte c :: rest) = some (.tokRead c, rest) := by
  have hb : (byte c).toNat = c := byte_toNat (by omega)
  simp [decodeToken, hb, h1]

theorem decodeToken_tokWrite {sh : Shape} {e : Bool} {bs rest : List Byte} {arg : WriteArg}
    (h : takeWriteArg sh e bs = some (arg, rest)) : decodeToken sh e (tokWRITE :: bs) = some (.tokWrite arg, rest) := by
  simp [decodeToken, h]

/-- Settles O3: each token's reader is given the elements its writer wrote. -/
theorem tokenRoundTrip : Obligations.TokenRoundTrip := by
  intro e sh i rest ht hw hpointer hcounted
  cases i
  case tokEnd | tokEscape | tokStart | tokStop | tokFlags => rfl
  case tokAddress a => exact decodeToken_tokAddress sh e (of_decide_eq_true hw) rest
  case tokRead c =>
    simp only [Instr.wf, Bool.and_eq_true, decide_eq_true_eq] at hw
    exact decodeToken_tokRead sh e hw.1 hw.2 rest
  case tokWrite arg =>
    cases arg with
    | pointer r => exact decodeToken_tokWrite (takeWriteArg_pointer (hpointer r rfl) e r rest)
    | counted r p =>
      obtain rfl := hcounted r p rfl
      simp only [Instr.wf, WriteArg.wf, Bool.and_eq_true, decide_eq_true_eq] at hw
      exact decodeToken_tokWrite (takeWriteArg_counted e hw.1 hw.2 rest)
  all_goals cases ht

end Sys2Proof

namespace Sys2Proof.Machine

/-- Without the escape a W program's fifth element is its count, 2..255, where an RC program has ESCAPE. -/
theorem shapeW_false_ne_shapeRC {a a' l : Nat} {r r' : Byte} {p : List Byte} (h1 : 1 ≤ p.length) (h2 : p.length ≤ 254) :
    shapeW false a r p ≠ shapeRC a' r' l := by
  intro h
  have hcount : byte (p.length + 1) = tokESCAPE := by simpa [shapeW, shapeRC, elementAt] using congrArg (elementAt · 4) h
  have hn : (byte (p.length + 1)).toNat = p.length + 1 := byte_toNat (by omega)
  rw [hcount] at hn
  have : (tokESCAPE).toNat = 1 := rfl
  omega

theorem shapeW_true_eq_shapeRC (a : Nat) {x : Byte} (hx : 2 ≤ x.toNat) :
    shapeW true a 0x02 [0x06, x] = shapeRC a 0x03 (x.toNat - 1) := by
  have : x.toNat - 1 + 1 = x.toNat := by omega
  simp [shapeW, shapeRC, this]

/-- Settles O11: the escaped count 3 stands where RC has its register, and what follows reads as START, READ, x. -/
theorem escapedWriteCanCollideWithCombinedRead : Obligations.EscapedWriteCanCollideWithCombinedRead :=
  ⟨fun a _ hx => shapeW_true_eq_shapeRC a hx, fun _ _ _ _ _ _ h1 h2 => shapeW_false_ne_shapeRC h1 h2⟩

/-! ### Emission -/

/-- A well-formed token that another may follow; FLAGS has no meaning (40_tokens.md R85). -/
def IsInnerToken (t : Instr) : Prop := t.isToken = true ∧ t.wf = true ∧ t ≠ .tokEnd ∧ t ≠ .tokFlags

theorem exec_innerToken {t : Instr} (h : IsInnerToken t) (s : State) :
    exec t s = .next (s.emit (encode s.cfg.escapeWriteLength t)) := by
  obtain ⟨ht, hw, hend, hflags⟩ := h
  cases t
  case tokEnd => exact absurd rfl hend
  case tokFlags => exact absurd rfl hflags
  case tokEscape | tokStart | tokStop => rfl
  case tokAddress a =>
    have ha : ¬ 128 ≤ a := Nat.not_le.2 (of_decide_eq_true hw)
    exact congrArg _ (if_neg ha)
  case tokRead c =>
    simp only [Instr.wf, Bool.and_eq_true, decide_eq_true_eq] at hw
    exact congrArg _ (if_neg (by omega))
  case tokWrite arg => exact congrArg _ (if_pos hw)
  all_goals cases ht

/-- Tokens and an END hand back their elements, one token's after the other's. -/
theorem execAll_tokens {ts : List Instr} (h : ∀ t ∈ ts, IsInnerToken t) (s : State) :
    execAll (ts ++ [.tokEnd]) s = .next ({ s with asm := [] }.finish
      (.program (s.asm ++ ts.flatMap (encode s.cfg.escapeWriteLength) ++ [tokEND]))) := by
  induction ts generalizing s with
  | nil => simp [execAll, exec, execTokEnd]
  | cons t ts ih =>
    obtain ⟨ht, hts⟩ := List.forall_mem_cons.1 h
    simp only [List.cons_append, execAll, exec_innerToken ht, ih hts, List.flatMap_cons, State.emit_asm, State.emit_cfg,
      List.append_assoc]
    rfl

/-- With nothing assembled before, the tokens of a program end as an operation that returns the program. -/
theorem execAll_tokens_of_program {s : State} (hasm : s.asm = []) {ts : List Instr} (h : ∀ t ∈ ts, IsInnerToken t)
    {prog : List Byte} (hprog : ts.flatMap (encode s.cfg.escapeWriteLength) ++ [tokEND] = prog) :
    execAll (ts ++ [.tokEnd]) s = .next (s.returnProgram (.ok prog)) := by
  have hs : { s with asm := [] } = s := by rw [← hasm]
  rw [execAll_tokens h, hs, hasm, List.nil_append, hprog]
  rfl

/-- Settles O13: each shape is the elements of its tokens in order. -/
theorem tokenSequencesAssembleTheEncodersPrograms : Obligations.TokenSequencesAssembleTheEncodersPrograms := by
  intro s a r ha hasm
  refine ⟨fun p h1 h2 => ?_, fun l h1 h2 => ?_, ?_, fun l h1 h2 => ?_⟩
  · rw [exec, execEncWrite, encodeWrite_of_range ha h1 h2]
    refine execAll_tokens_of_program hasm (ts := [.tokAddress a, .tokStart, .tokWrite (.counted r p), .tokStop]) ?_ ?_
    · simp [IsInnerToken, Instr.isToken, Instr.wf, WriteArg.wf, ha, h1, h2]
    · simp [encode, encodeOperands, opcode, WriteArg.encode, shapeW]
  · rw [exec, execEncReadComb, encodeReadComb_of_range ha h1 h2]
    refine execAll_tokens_of_program hasm
      (ts := [.tokAddress a, .tokStart, .tokWrite (.pointer r), .tokStart, .tokRead (l + 1), .tokStop]) ?_ rfl
    simp [IsInnerToken, Instr.isToken, Instr.wf, WriteArg.wf, ha]
    omega
  · rw [exec, execEncSplitPtr, encodeSplitPtr_of_range ha]
    refine execAll_tokens_of_program hasm (ts := [.tokAddress a, .tokStart, .tokWrite (.pointer r), .tokStop]) ?_ rfl
    simp [IsInnerToken, Instr.isToken, Instr.wf, WriteArg.wf, ha]
  · rw [exec, execEncSplitRead, encodeSplitRead_of_range ha h1 h2]
    refine execAll_tokens_of_program hasm (ts := [.tokAddress a, .tokStart, .tokRead l, .tokStop]) ?_ rfl
    simp [IsInnerToken, Instr.isToken, Instr.wf, ha, h1, h2]

/-! ### Malformed frames -/

theorem commandStep_of_error {s : State} {frame : List Byte} {rest : List (List Byte)} {err : FrameError}
    (hf : s.io.frames = frame :: rest) (hd : decodeFrame frame = .error err) :
    commandStep s = .next ((takeFrame s rest).refuse (frameRefusal err)) := by
  simp [commandStep, hf, hd]

/-- Settles O8: both frame errors take the frame and record the refusal named after them. -/
theorem stepRecordsAMalformedFrame : Obligations.StepRecordsAMalformedFrame := by
  intro s frame rest hq hf
  have hseq : s.seq = .idle := hq.1
  have hrefuse {err : FrameError} (hd : decodeFrame frame = .error err) : step s = .next { s with
      refused := State.insertNew (frameRefusal err) s.refused, io := { s.io with frames := rest, result := none } } := by
    rw [step_of_quiet hq, commandStep_of_error hf hd]
    simp [State.refuse, takeFrame, hseq]
  exact ⟨hrefuse, hrefuse⟩

end Sys2Proof.Machine

/-! ## What a step sends

`Sends s t` says of a transition that makes at most one exchange what that exchange is; it asks for no invariant. The updates
that neither exchange anything nor touch the Transport's port leave `State.line` as it is. -/

namespace Sys2Proof.Machine

/-- The fields an exchange with the Transport reads or writes. -/
def State.line (s : State) : Config × List Exchange × TransportPort := (s.cfg, s.io.trace, s.port)

/-- No exchange, one with the bus, or one program, of some shape, which then stands in the Transport's port. -/
inductive Sends (s t : State) : Prop where
  | nothing (htrace : t.io.trace = s.io.trace) (hport : ∀ p, t.port = .busy p → s.port = .busy p)
  | bus (x : Exchange) (hx : ∀ b p, .transact b p ≠ x) (htrace : t.io.trace = s.io.trace ++ [x])
      (hport : ∀ p, t.port = .busy p → s.port = .busy p)
  | program (p : List Byte) (hwf : ∃ sh, programWellFormed s.cfg.escapeWriteLength sh p = true)
      (htrace : t.io.trace = s.io.trace ++ [.transact s.cfg.busId p]) (hport : t.port = .busy p)

variable {s t u : State} {op : Instr} {k : Nat} {q : Quantity} {ans : Answer}

theorem sends_of_line (e : t.line = s.line) : Sends s t := by
  simp only [State.line, Prod.mk.injEq] at e
  obtain ⟨-, htrace, hport⟩ := e
  exact .nothing htrace fun _ hp => hport ▸ hp

/-- What is sent after updates that leave the line as it is, is sent from before them. -/
theorem Sends.of_line (h : Sends u t) (e : u.line = s.line) : Sends s t := by
  simp only [State.line, Prod.mk.injEq] at e
  obtain ⟨hcfg, htrace, hport⟩ := e
  cases h with
  | nothing ht hp => exact .nothing (ht.trans htrace) fun p hb => hport ▸ hp p hb
  | bus x hx ht hp => exact .bus x hx (htrace ▸ ht) fun p hb => hport ▸ hp p hb
  | program p hwf ht hp => exact .program p (hcfg ▸ hwf) (hcfg ▸ htrace ▸ ht) hp

@[simp] theorem line_setChan (s : State) (ch : Channel) (v : ChannelSt) : (s.setChan ch v).line = s.line := by
  cases ch <;> rfl

/-! ### The shared operations -/

theorem sends_finish (s : State) (r : Result) : Sends s (s.finish r) := sends_of_line rfl

theorem sends_moveTo (s : State) (op : Instr) (k : Nat) : Sends s (s.moveTo op k) := sends_of_line rfl

theorem sends_fault (s : State) (f : Fault) : Sends s (s.fault f) := sends_of_line rfl

theorem sends_refuse (s : State) (f : Refusal) : Sends s (s.refuse f) := sends_of_line rfl

theorem sends_emit (s : State) (es : List Byte) : Sends s (s.emit es) := sends_of_line rfl

theorem sends_returnProgram (s : State) (prog : Except Refusal (List Byte)) : Sends s (s.returnProgram prog) := by
  cases prog with
  | error e => exact sends_refuse s e
  | ok p => exact sends_finish s _

/-- The one place where a program goes out: it goes out as its encoder made it. -/
theorem sends_channelTransact {direct : Bool} {ch : Channel} {code : Byte} {prog : Except Refusal (List Byte)}
    (hwf : ∀ p, prog = .ok p → ∃ sh, programWellFormed s.cfg.escapeWriteLength sh p = true) :
    Sends s (channelTransact op k direct ch code prog s) := by
  obtain ⟨e, -, heq⟩ | ⟨p, -, -, -, heq⟩ | ⟨p, hp, -, -, heq⟩ | ⟨p, -, -, -, heq⟩ :=
    channelTransact_cases op k direct ch code prog s <;> rw [heq]
  · exact sends_refuse s e
  · exact sends_fault s _
  · exact .program p (hwf p hp) rfl rfl
  · exact sends_fault s _

theorem sends_readBegin (op : Instr) (k : Nat) (direct : Bool) (ch : Channel) (a : Nat) (r : Byte) (l : Nat) (s : State) :
    Sends s (readBegin op k direct ch a r l s) :=
  sends_channelTransact fun _ h => ⟨.RC, encodeReadComb_wellFormed _ h⟩

theorem sends_writeBegin (op : Instr) (k : Nat) (direct : Bool) (ch : Channel) (a : Nat) (r : Byte) (p : List Byte)
    (s : State) : Sends s (writeBegin op k direct ch a r p s) :=
  sends_channelTransact fun _ h => ⟨.W, encodeWrite_wellFormed h⟩

theorem sends_setPointerBegin (op : Instr) (k : Nat) (direct : Bool) (a : Nat) (r : Byte) (s : State) :
    Sends s (setPointerBegin op k direct a r s) :=
  sends_channelTransact fun _ h => ⟨.SP, encodeSplitPtr_wellFormed _ h⟩

theorem sends_readAfterPointerBegin (op : Instr) (k : Nat) (direct : Bool) (a l : Nat) (s : State) :
    Sends s (readAfterPointerBegin op k direct a l s) :=
  sends_channelTransact fun _ h => ⟨.SR, encodeSplitRead_wellFormed _ h⟩

theorem sends_openBegin {ch : Channel} {already : State → State} (h : Sends s (already s)) :
    Sends s (openBegin op k ch already s) := by
  obtain ⟨-, heq⟩ | ⟨-, -, heq⟩ | ⟨-, -, heq⟩ := openBegin_cases op k ch already s <;> rw [heq]
  · exact h
  · exact sends_fault s _
  · exact .bus (.claim ..) nofun rfl fun _ => id

theorem sends_closeBegin {ch : Channel} {closed : State → State} (h : ∀ u, (closed u).line = u.line) :
    Sends s (closeBegin ch closed s) := by
  obtain ⟨-, heq⟩ | ⟨-, heq⟩ := closeBegin_cases ch closed s <;> rw [heq]
  · have hline : (closed (s.release.setChan ch .closed)).line = s.release.line := by rw [h, line_setChan]
    simp only [State.line, Prod.mk.injEq] at hline
    obtain ⟨-, htrace, hport⟩ := hline
    exact .bus .release nofun htrace fun _ hp => hport ▸ hp
  · exact sends_fault s _

theorem sends_ptGuard {code : Byte} {body : State → State} (h : Sends s (body s)) : Sends s (ptGuard code body s) := by
  obtain ⟨-, heq⟩ | ⟨-, heq⟩ := ptGuard_cases code body s <;> rw [heq]
  · exact h
  · exact sends_fault s _

theorem sends_htGuard {code : Byte} {body : State → State} (h : Sends s (body s)) : Sends s (htGuard code body s) := by
  obtain ⟨-, heq⟩ | ⟨-, heq⟩ := htGuard_cases code body s <;> rw [heq]
  · exact h
  · exact sends_fault s _

theorem sends_ptWrite (op : Instr) (k : Nat) (r b : Byte) (s : State) : Sends s (ptWrite op k r b s) := sends_writeBegin ..

theorem sends_ptCloseWith (r : Result) (s : State) : Sends s (ptCloseWith r s) :=
  sends_ptGuard (sends_closeBegin fun _ => rfl)

theorem sends_htCloseWith (r : Result) (s : State) : Sends s (htCloseWith r s) :=
  sends_htGuard (sends_closeBegin fun _ => rfl)

theorem sends_ptIsReadyBegin (op : Instr) (k : Nat) (s : State) : Sends s (ptIsReadyBegin op k s) :=
  sends_ptGuard (sends_readBegin ..)

theorem sends_htIsReadyBegin (op : Instr) (k : Nat) (s : State) : Sends s (htIsReadyBegin op k s) :=
  sends_htGuard (sends_readAfterPointerBegin ..)

theorem sends_ptFetchBegin {notReady : State → State} (h : Sends s (notReady s)) :
    Sends s (ptFetchBegin op k notReady s) := by
  refine sends_ptGuard ?_
  split
  · exact (sends_readBegin ..).of_line (u := s.setPtReady false) rfl
  · exact h

theorem sends_htFetchBegin {notReady : State → State} (h : Sends s (notReady s)) :
    Sends s (htFetchBegin op k notReady s) := by
  refine sends_htGuard ?_
  split
  · exact (sends_readAfterPointerBegin ..).of_line (u := s.setHtReady false) rfl
  · exact h

theorem sends_setupWrite (op : Instr) (s : State) : Sends s (setupWrite op s) := sends_writeBegin ..

theorem sends_ptConstructBegin (op : Instr) (s : State) : Sends s (ptConstructBegin op s) := by
  unfold ptConstructBegin
  split
  · exact sends_fault s _
  · exact sends_openBegin ((sends_ptWrite ..).of_line (u := s.setPtReady false) rfl)

theorem sends_htConstructBegin (op : Instr) (s : State) : Sends s (htConstructBegin op s) := by
  unfold htConstructBegin
  split
  · exact sends_fault s _
  · exact sends_openBegin ((sends_setupWrite ..).of_line (u := s.setHtReady false) rfl)

theorem sends_ptConstructProceed {m : Mode} (h : ptConstructProceed op m k s = some t) : Sends s t := by
  unfold ptConstructProceed at h
  split at h <;> cases h <;> exact sends_ptWrite ..

theorem sends_htConstructProceed (h : htConstructProceed op k s = some t) : Sends s t := by
  unfold htConstructProceed at h
  split at h <;> cases h
  · exact sends_setupWrite ..
  · exact sends_setPointerBegin ..

theorem sends_proceedSelect {m : Mode} (h : proceedSelect op m k s = some t) : Sends s t := by
  unfold proceedSelect at h
  split at h <;> cases h
  exact sends_ptWrite ..

/-! ### The measurements -/

theorem sends_closeWith (q : Quantity) (r : Result) (s : State) : Sends s (closeWith q r s) := by
  unfold closeWith
  split
  · exact sends_ptCloseWith r s
  · exact sends_htCloseWith r s

theorem sends_failedAttempt (q : Quantity) (s : State) : Sends s (failedAttempt q s) := by
  obtain ⟨-, heq⟩ | ⟨-, heq⟩ := failedAttempt_cases q s <;> rw [heq]
  · exact (sends_closeWith ..).of_line rfl
  · exact sends_of_line rfl

theorem sends_measureBegin (q : Quantity) (s : State) : Sends s (measureBegin q s) := by
  unfold measureBegin constructBegin
  split
  · exact (sends_ptConstructBegin ..).of_line (u := s.setPhase .construct) rfl
  · exact (sends_htConstructBegin ..).of_line (u := s.setPhase .construct) rfl

theorem sends_isReadyBegin (q : Quantity) (s : State) : Sends s (isReadyBegin q s) := by
  unfold isReadyBegin
  split
  · exact sends_ptIsReadyBegin ..
  · exact sends_htIsReadyBegin ..

theorem sends_fetchBegin (q : Quantity) (s : State) : Sends s (fetchBegin q s) := by
  unfold fetchBegin
  split
  · exact sends_ptFetchBegin (sends_failedAttempt q s)
  · exact sends_htFetchBegin (sends_failedAttempt q s)

theorem sends_loopHead (h : loopHead q s = some t) : Sends s t := by
  have hpoll : Sends s (isReadyBegin q (s.setPhase .poll)) := (sends_isReadyBegin ..).of_line rfl
  have hsleep : Sends s (s.setPhase .sleep) := sends_of_line rfl
  unfold loopHead at h
  split at h <;> cases h
  exacts [hpoll, hpoll, hsleep, hsleep, hsleep]

theorem sends_measureProceed (h : measureProceed q k s = some t) : Sends s t := by
  unfold measureProceed constructProceed at h
  split at h
  · split at h
    · exact sends_ptConstructProceed h
    · exact sends_htConstructProceed h
  · split at h
    · exact sends_loopHead h
    · split at h <;> cases h
      exact (sends_fetchBegin ..).of_line (u := s.setPhase .fetch) rfl

/-! ### Every operation's beginning, and its going on -/

theorem sends_exec {i : Instr} (h : exec i s = .next t) : Sends s t := by
  cases i
  case tokFlags => cases h
  all_goals obtain rfl := next_inj h
  case tokEnd => exact sends_of_line rfl
  case tokEscape | tokStart | tokStop => exact sends_emit s _
  case tokAddress | tokRead =>
    split
    · exact sends_refuse s _
    · exact sends_emit s _
  case tokWrite =>
    split
    · exact sends_emit s _
    · exact sends_refuse s _
  case encWrite | encReadComb | encSplitPtr | encSplitRead => exact sends_returnProgram s _
  case decResult | ptDecodeAltitude | ptDecodePressure | ptDecodeTemperature | htConvTemperature | htConvHumidity
    | htDecodeTemperature | htDecodeHumidity => exact sends_finish s _
  case twos =>
    split
    · exact sends_refuse s _
    · split
      · exact sends_refuse s _
      · exact sends_finish s _
  case chOpen =>
    split
    · exact sends_fault s _
    · exact sends_openBegin (sends_finish s _)
  case chRead => exact sends_readBegin ..
  case chWrite | chWrite1 => exact sends_writeBegin ..
  case pwSetPointer => exact sends_setPointerBegin ..
  case pwReadAfterPointer => exact sends_readAfterPointerBegin ..
  case chClose =>
    split
    · exact sends_fault s _
    · exact sends_closeBegin fun _ => rfl
  case ptConstruct => exact sends_ptConstructBegin ..
  case ptSelectAltitude | ptSelectBarometric => exact sends_ptGuard (sends_ptWrite ..)
  case ptIsReady => exact sends_ptIsReadyBegin ..
  case ptFetchRaw => exact sends_ptFetchBegin (sends_finish s _)
  case ptClose => exact sends_ptCloseWith ..
  case htConstruct => exact sends_htConstructBegin ..
  case htIsReady => exact sends_htIsReadyBegin ..
  case htFetchRaw => exact sends_htFetchBegin (sends_finish s _)
  case htClose => exact sends_htCloseWith ..
  case mPressure | mAltitude | mTemperaturePt | mHumidity | mTemperatureHt => exact sends_measureBegin ..

theorem sends_proceed {i : Instr} (h : proceed i k s = some t) : Sends s t := by
  cases i
  case ptConstruct => exact sends_ptConstructProceed h
  case htConstruct => exact sends_htConstructProceed h
  case ptSelectAltitude | ptSelectBarometric => exact sends_proceedSelect h
  case mPressure | mAltitude | mTemperaturePt | mHumidity | mTemperatureHt => exact sends_measureProceed h
  all_goals cases h

/-! ### Every answer -/

theorem sends_openAnswer {ch : Channel} {ok : Bool} {opened failed : State → State}
    (hopened : ∀ u, Sends u (opened u)) (hfailed : ∀ u, Sends u (failed u)) :
    Sends s (openAnswer ch ok opened failed s) := by
  cases ok with
  | true => exact (hopened _).of_line (line_setChan ..)
  | false => exact hfailed s

theorem sends_ptConstructAnswer {m : Mode} {done failed : State → State}
    (h : ptConstructAnswer op m done failed k ans s = some t) (hdone : ∀ u, Sends u (done u))
    (hfailed : ∀ u, Sends u (failed u)) : Sends s t := by
  unfold ptConstructAnswer at h
  split at h <;> cases h
  · exact sends_openAnswer (fun _ => sends_of_line rfl) hfailed
  · exact sends_of_line rfl
  · exact sends_moveTo ..
  · exact (hdone _).of_line rfl

theorem sends_htConstructAnswer {done failed : State → State}
    (h : htConstructAnswer op done failed k ans s = some t) (hdone : ∀ u, Sends u (done u))
    (hfailed : ∀ u, Sends u (failed u)) : Sends s t := by
  unfold htConstructAnswer at h
  split at h <;> cases h
  · exact sends_openAnswer (fun _ => sends_of_line rfl) hfailed
  · exact sends_moveTo ..
  · exact (hdone _).of_line rfl

theorem sends_tested (q : Quantity) (s : State) :
    Sends s (if driverReady q s then s.moveTo q.op (pollStep q.sensor + 1) else failedAttempt q s) := by
  split
  · exact sends_moveTo ..
  · exact sends_failedAttempt q s

theorem sends_pollAnswer (q : Quantity) (st : Int) (d : List Byte) (s : State) : Sends s (pollAnswer q st d s) := by
  unfold pollAnswer
  split
  · exact (sends_tested q _).of_line rfl
  · exact (sends_tested q _).of_line rfl

theorem sends_fetchAnswer (q : Quantity) (st : Int) (d : List Byte) (s : State) : Sends s (fetchAnswer q st d s) := by
  unfold fetchAnswer decoded
  split
  · split
    · exact (sends_closeWith ..).of_line rfl
    · exact (sends_failedAttempt ..).of_line rfl
  · exact sends_failedAttempt q s
  · exact sends_failedAttempt q s

theorem sends_measureAnswer (h : measureAnswer q k ans s = some t) : Sends s t := by
  have hdone (u : State) : Sends u (constructed q u) := sends_of_line rfl
  have hfailed (u : State) : Sends u (constructFailed q u) := sends_finish u _
  unfold measureAnswer constructAnswer at h
  split at h
  · split at h
    · exact sends_ptConstructAnswer h hdone hfailed
    · exact sends_htConstructAnswer h hdone hfailed
  · split at h
    · split at h <;> cases h
      exact sends_pollAnswer ..
    · split at h
      · split at h <;> cases h
        exact sends_fetchAnswer ..
      · cases h

theorem sends_answer {i : Instr} (h : answer i k ans s = some t) : Sends s t := by
  cases i
  case chOpen =>
    simp only [answer, answerChOpen] at h
    split at h <;> cases h
    exact sends_openAnswer (fun u => sends_finish u _) fun u => sends_finish u _
  case chRead | chWrite | chWrite1 | pwReadAfterPointer =>
    simp only [answer, answerTransport] at h
    split at h <;> cases h
    exact sends_finish s _
  case pwSetPointer =>
    simp only [answer, answerPwSetPointer] at h
    split at h <;> cases h
    exact sends_finish s _
  case ptConstruct =>
    simp only [answer, answerPtConstruct] at h
    exact sends_ptConstructAnswer h (fun u => sends_finish u _) fun u => sends_finish u _
  case htConstruct =>
    simp only [answer, answerHtConstruct] at h
    exact sends_htConstructAnswer h (fun u => sends_finish u _) fun u => sends_finish u _
  case ptSelectAltitude | ptSelectBarometric =>
    simp only [answer, answerSelect] at h
    split at h <;> cases h <;> exact sends_of_line rfl
  case ptIsReady =>
    simp only [answer, answerPtIsReady] at h
    split at h <;> cases h
    exact sends_of_line rfl
  case htIsReady =>
    simp only [answer, answerHtIsReady] at h
    split at h <;> cases h
    exact sends_of_line rfl
  case ptFetchRaw | htFetchRaw =>
    simp only [answer, answerFetch] at h
    split at h <;> cases h
    exact sends_finish s _
  case mPressure | mAltitude | mTemperaturePt | mHumidity | mTemperatureHt => exact sends_measureAnswer h
  all_goals cases h

/-! ### Every step -/

/-- A consumed answer leaves the port idle, which is no Busy port. -/
theorem Sends.of_portIdle (h : Sends { s with port := .idle } t) : Sends s t := by
  cases h with
  | nothing htrace hport => exact .nothing htrace fun p hp => nomatch hport p hp
  | bus x hx htrace hport => exact .bus x hx htrace fun p hp => nomatch hport p hp
  | program p hwf htrace hport => exact .program p hwf htrace hport

theorem sends_transportStep (s : State) : Sends s (transportStep s) := by
  unfold transportStep
  split
  · exact sends_of_line rfl
  · exact .nothing rfl nofun

theorem sends_claimStep (s : State) : Sends s (claimStep s) := by
  unfold claimStep
  split <;> exact sends_of_line rfl

theorem sends_consumeTransport {st : Int} {d : List Byte} (h : consumeTransport st d s = .next t) : Sends s t := by
  unfold consumeTransport at h
  split at h
  · exact (sends_answer (orNoPosition_eq_next.1 h)).of_portIdle
  · cases h

theorem sends_consumeClaim {ok : Bool} (h : consumeClaim ok s = .next t) : Sends s t := by
  unfold consumeClaim at h
  split at h
  · exact (sends_answer (orNoPosition_eq_next.1 h)).of_line rfl
  · cases h

theorem sends_commandStep (h : commandStep s = .next t) : Sends s t := by
  unfold commandStep at h
  split at h
  · cases h
    exact sends_of_line rfl
  · split at h
    · cases h
      exact sends_of_line rfl
    · exact (sends_exec h).of_line rfl

theorem sends_step (h : step s = .next t) : Sends s t := by
  obtain ⟨p, -, heq⟩ | ⟨st, d, -, heq⟩ | ⟨-, -, heq⟩ | ⟨ok, -, -, heq⟩ | ⟨op, k, -, -, -, heq⟩ | ⟨-, -, -, heq⟩ :=
    step_cases s <;> rw [heq] at h
  · exact next_inj h ▸ sends_transportStep s
  · exact sends_consumeTransport h
  · exact next_inj h ▸ sends_claimStep s
  · exact sends_consumeClaim h
  · exact sends_proceed (orNoPosition_eq_next.1 h)
  · exact sends_commandStep h

/-- Settles O56: a program goes out only as an encoder made it, and only its exchange makes the port Busy. -/
theorem everyProgramSentIsOneOfTheFourShapes : Obligations.EveryProgramSentIsOneOfTheFourShapes := by
  intro s t h
  cases sends_step h with
  | nothing htrace hport => exact ⟨[], by simp [htrace], by simp, by simp, fun p hp => .inl (hport p hp)⟩
  | bus x hx htrace hport => exact ⟨[x], htrace, le_rfl, by simp [hx], fun p hp => .inl (hport p hp)⟩
  | program p hwf htrace hport =>
    refine ⟨[.transact s.cfg.busId p], htrace, le_rfl, fun b p' hmem => ?_, fun p' hp => .inr ?_⟩
    · obtain ⟨rfl, rfl⟩ : b = s.cfg.busId ∧ p' = p := by simpa using hmem
      exact ⟨rfl, hport, hwf⟩
    · obtain rfl : p = p' := by simpa [hport] using hp
      simp

end Sys2Proof.Machine

/-! ## The program checker and the token reader -/

namespace Sys2Proof.Machine

/-! ### What the checker accepts (40_tokens.md R88) -/

theorem elementAt_shapeW_count (e : Bool) (a : Nat) (r : Byte) (p : List Byte) :
    elementAt (shapeW e a r p) (4 + if e then 1 else 0) = byte (p.length + 1) := by
  cases e <;> rfl

/-- A payload the checker takes has the length of the count it read: no more because it was taken so, no less because the
layout writes its length there. -/
theorem length_of_eq_shapeW_take {e : Bool} {prog : List Byte} {a n m : Nat} {r : Byte}
    (hn : (elementAt prog (4 + if e then 1 else 0)).toNat - 1 = n) (h : prog = shapeW e a r ((prog.drop m).take n)) :
    ((prog.drop m).take n).length = n := by
  have hlt := (elementAt prog (4 + if e then 1 else 0)).isLt
  have hle := List.length_take_le n (prog.drop m)
  rw [h, elementAt_shapeW_count, byte_toNat (by omega)] at hn
  omega

theorem programWellFormed_W_iff {e : Bool} {prog : List Byte} : programWellFormed e .W prog = true ↔
    ∃ a r p, a < 128 ∧ 1 ≤ p.length ∧ p.length ≤ 254 ∧ prog = shapeW e a r p := by
  constructor
  · intro h
    simp only [programWellFormed, Bool.and_eq_true, decide_eq_true_eq] at h
    obtain ⟨ha, hcount, hprog⟩ := h
    have hlen := length_of_eq_shapeW_take rfl hprog
    have hlt := (elementAt prog (4 + if e then 1 else 0)).isLt
    exact ⟨_, _, _, ha, by omega, by omega, hprog⟩
  · rintro ⟨a, r, p, ha, h1, h2, rfl⟩
    exact encodeWrite_wellFormed (encodeWrite_of_range ha h1 h2)

theorem programWellFormed_RC_iff {e : Bool} {prog : List Byte} : programWellFormed e .RC prog = true ↔
    ∃ a r l, a < 128 ∧ 1 ≤ l ∧ l ≤ 254 ∧ prog = shapeRC a r l := by
  constructor
  · intro h
    simp only [programWellFormed, Bool.and_eq_true, decide_eq_true_eq] at h
    obtain ⟨ha, hcount, hprog⟩ := h
    have hlt := (elementAt prog 8).isLt
    exact ⟨_, _, _, ha, hcount, by omega, hprog⟩
  · rintro ⟨a, r, l, ha, h1, h2, rfl⟩
    exact encodeReadComb_wellFormed e (encodeReadComb_of_range ha h1 h2)

theorem programWellFormed_SP_iff {e : Bool} {prog : List Byte} : programWellFormed e .SP prog = true ↔
    ∃ a r, a < 128 ∧ prog = shapeSP a r := by
  constructor
  · intro h
    simp only [programWellFormed, Bool.and_eq_true, decide_eq_true_eq] at h
    exact ⟨_, _, h⟩
  · rintro ⟨a, r, ha, rfl⟩
    exact encodeSplitPtr_wellFormed e (encodeSplitPtr_of_range ha)

theorem programWellFormed_SR_iff {e : Bool} {prog : List Byte} : programWellFormed e .SR prog = true ↔
    ∃ a l, a < 128 ∧ 1 ≤ l ∧ l ≤ 255 ∧ prog = shapeSR a l := by
  constructor
  · intro h
    simp only [programWellFormed, Bool.and_eq_true, decide_eq_true_eq] at h
    obtain ⟨ha, hcount, hprog⟩ := h
    have hlt := (elementAt prog 4).isLt
    exact ⟨_, _, ha, hcount, by omega, hprog⟩
  · rintro ⟨a, l, ha, h1, h2, rfl⟩
    exact encodeSplitRead_wellFormed e (encodeSplitRead_of_range ha h1 h2)

/-- Settles O9: the elements the checker reads at the operands' positions are operands within R65. -/
theorem checkerAcceptsExactlyTheLayouts : Obligations.CheckerAcceptsExactlyTheLayouts := fun _ _ =>
  ⟨programWellFormed_W_iff, programWellFormed_RC_iff, programWellFormed_SP_iff, programWellFormed_SR_iff⟩

/-! ### Reading a program back as tokens -/

/-- A token that can stand before END in a program of shape `sh`: WRITE has the operand form of that shape (40_tokens.md R87). -/
def IsInnerTokenOf (sh : Shape) (t : Instr) : Prop :=
  IsInnerToken t ∧ (∀ r, t = .tokWrite (.pointer r) → sh = .RC ∨ sh = .SP) ∧
    ∀ r p, t = .tokWrite (.counted r p) → sh = .W

theorem decodeProgramFuel_cons {sh : Shape} {t : Instr} (ht : IsInnerTokenOf sh t) (e : Bool) (fuel : Nat)
    (rest : List Byte) : decodeProgramFuel sh e (fuel + 1) (encode e t ++ rest) =
      (decodeProgramFuel sh e fuel rest).map (t :: ·) := by
  obtain ⟨⟨htok, hwf, hend, -⟩, hpointer, hcounted⟩ := ht
  rw [decodeProgramFuel, tokenRoundTrip e sh t rest htok hwf hpointer hcounted]
  cases t
  case tokEnd => exact absurd rfl hend
  all_goals rfl

/-- Each token takes an element or more, so fuel for the elements is fuel for the tokens. -/
theorem decodeProgramFuel_tokens {sh : Shape} {ts : List Instr} (h : ∀ t ∈ ts, IsInnerTokenOf sh t) (e : Bool)
    {fuel : Nat} (hfuel : (ts.flatMap (encode e)).length ≤ fuel) :
    decodeProgramFuel sh e (fuel + 1) (ts.flatMap (encode e) ++ [tokEND]) = some (ts ++ [.tokEnd]) := by
  induction ts generalizing fuel with
  | nil => rfl
  | cons t ts ih =>
    obtain ⟨ht, hts⟩ := List.forall_mem_cons.1 h
    have hpos : 0 < (encode e t).length := Nat.succ_pos _
    rw [List.flatMap_cons, List.length_append] at hfuel
    obtain ⟨fuel, rfl⟩ := Nat.exists_eq_add_one_of_ne_zero (n := fuel) (by omega)
    rw [List.flatMap_cons, List.append_assoc, decodeProgramFuel_cons ht, ih hts (by omega)]
    rfl

theorem decodeProgram_tokens {sh : Shape} {ts : List Instr} (h : ∀ t ∈ ts, IsInnerTokenOf sh t) (e : Bool) :
    decodeProgram sh e (ts.flatMap (encode e) ++ [tokEND]) = some (ts ++ [.tokEnd]) := by
  rw [decodeProgram, List.length_append]
  exact decodeProgramFuel_tokens h e le_rfl

/-- A well-formed program is the elements of tokens of its shape and then an END (30_encoding.md R63). -/
theorem exists_tokens_of_programWellFormed {e : Bool} {sh : Shape} {prog : List Byte}
    (h : programWellFormed e sh prog = true) :
    ∃ ts : List Instr, (∀ t ∈ ts, IsInnerTokenOf sh t) ∧ prog = ts.flatMap (encode e) ++ [tokEND] := by
  cases sh with
  | W =>
    obtain ⟨a, r, p, ha, h1, h2, rfl⟩ := programWellFormed_W_iff.1 h
    refine ⟨[.tokAddress a, .tokStart, .tokWrite (.counted r p), .tokStop], ?_, ?_⟩
    · simp [IsInnerTokenOf, IsInnerToken, Instr.isToken, Instr.wf, WriteArg.wf, ha, h1, h2]
    · simp [encode, encodeOperands, opcode, WriteArg.encode, shapeW]
  | RC =>
    obtain ⟨a, r, l, ha, h1, h2, rfl⟩ := programWellFormed_RC_iff.1 h
    refine ⟨[.tokAddress a, .tokStart, .tokWrite (.pointer r), .tokStart, .tokRead (l + 1), .tokStop], ?_, rfl⟩
    simp [IsInnerTokenOf, IsInnerToken, Instr.isToken, Instr.wf, WriteArg.wf, ha]
    omega
  | SP =>
    obtain ⟨a, r, ha, rfl⟩ := programWellFormed_SP_iff.1 h
    refine ⟨[.tokAddress a, .tokStart, .tokWrite (.pointer r), .tokStop], ?_, rfl⟩
    simp [IsInnerTokenOf, IsInnerToken, Instr.isToken, Instr.wf, WriteArg.wf, ha]
  | SR =>
    obtain ⟨a, l, ha, h1, h2, rfl⟩ := programWellFormed_SR_iff.1 h
    refine ⟨[.tokAddress a, .tokStart, .tokRead l, .tokStop], ?_, rfl⟩
    simp [IsInnerTokenOf, IsInnerToken, Instr.isToken, Instr.wf, ha, h1, h2]

/-- Settles O10: the tokens before END are neither END nor FLAGS, and each is read back as it was written (O3). -/
theorem wellFormedProgramsReadAsTokens : Obligations.WellFormedProgramsReadAsTokens := by
  intro e sh prog h
  obtain ⟨ts, hts, rfl⟩ := exists_tokens_of_programWellFormed h
  have hinner : ∀ t ∈ ts, IsInnerToken t := fun t hmem => (hts t hmem).1
  have hend : .tokEnd ∉ ts := fun hmem => by
    obtain ⟨-, -, hne, -⟩ := hinner _ hmem
    exact hne rfl
  have hflags : .tokFlags ∉ ts := fun hmem => by
    obtain ⟨-, -, -, hne⟩ := hinner _ hmem
    exact hne rfl
  refine ⟨ts ++ [.tokEnd], decodeProgram_tokens hts e, ?_, fun t hmem => ?_, ?_, ?_, ?_⟩
  · rw [List.flatMap_append]
    rfl
  · obtain hmem | hmem := List.mem_append.1 hmem
    · obtain ⟨htok, hwf, -⟩ := hinner t hmem
      exact ⟨htok, hwf⟩
    · rw [List.mem_singleton.1 hmem]
      exact ⟨rfl, rfl⟩
  · exact List.getLast?_concat
  · rw [List.count_append, List.count_eq_zero.2 hend]
    rfl
  · simpa using hflags

/-! ### What a token does on its own -/

theorem exec_tokAddress_refused {a : Nat} (ha : 128 ≤ a) (s : State) :
    exec (.tokAddress a) s = .next (s.refuse .badAddress) := congrArg _ (if_pos ha)

theorem exec_tokRead_refused {c : Nat} (hc : c = 0 ∨ 255 < c) (s : State) :
    exec (.tokRead c) s = .next (s.refuse .badLength) := congrArg _ (if_pos (by omega))

theorem exec_tokWrite_refused {arg : WriteArg} (h : ¬ arg.wf = true) (s : State) :
    exec (.tokWrite arg) s = .next (s.refuse .badLength) := congrArg _ (if_neg h)

/-- Settles O12: within its range a token emits its elements, outside it refuses; END finishes with what was assembled. -/
theorem tokensAreEmittedWithTheirOperands : Obligations.TokensAreEmittedWithTheirOperands := by
  intro s
  refine ⟨rfl, fun x => rfl, rfl, rfl, fun a ha => ?_, fun a ha => exec_tokAddress_refused ha s, fun c h1 h2 => ?_,
    fun c hc => exec_tokRead_refused hc s, fun r => rfl, fun r p h1 h2 => ?_, fun r p hp => ?_⟩
  · exact exec_innerToken (t := .tokAddress a) ⟨rfl, decide_eq_true ha, nofun, nofun⟩ s
  · exact exec_innerToken (t := .tokRead c) ⟨rfl, by simp [Instr.wf, h1, h2], nofun, nofun⟩ s
  · rw [exec_innerToken (t := .tokWrite (.counted r p)) ⟨rfl, by simp [Instr.wf, WriteArg.wf, h1, h2], nofun, nofun⟩]
    simp [State.emit, encode, opcode, encodeOperands, WriteArg.encode]
  · exact exec_tokWrite_refused (by simp only [WriteArg.wf, Bool.and_eq_true, decide_eq_true_eq]; omega) s

/-- Settles O14: the arm of FLAGS does not look at the state. -/
theorem flagsHasNoMeaning : Obligations.FlagsHasNoMeaning := fun _ => rfl

end Sys2Proof.Machine

/-! ## The encoder, and the operations that read no state

An encoder tests its operands in the order of 41_encoder.md R90 to R93, and a failed test is the operation's refusal, whatever
program would follow. The decoders, the conversions and TWOS end at once as well, with an outcome their operands fix. -/

namespace Sys2Proof.Machine

@[simp] theorem State.returnProgram_error (s : State) (f : Refusal) : s.returnProgram (.error f) = s.refuse f := rfl

@[simp] theorem State.returnProgram_ok (s : State) (prog : List Byte) :
    s.returnProgram (.ok prog) = s.finish (.program prog) := rfl

/-- A failed test of an encoder refuses; a passed one leaves the rest of the encoder to decide. -/
theorem State.returnProgram_ite_error (s : State) (c : Prop) [Decidable c] (f : Refusal) (prog : Except Refusal (List Byte)) :
    s.returnProgram (if c then .error f else prog) = if c then s.refuse f else s.returnProgram prog := by
  split <;> rfl

/-! ### The encoder operations -/

/-- Settles O15: the two tests of `encodeWrite` refuse in their order, and past both the layout of shape W is returned. -/
theorem encWriteReturnsTheWriteProgram : Obligations.EncWriteReturnsTheWriteProgram := by
  refine fun a r p s => ⟨rfl, ?_⟩
  rw [exec, execEncWrite, encodeWrite, State.returnProgram_ite_error, State.returnProgram_ite_error]
  rfl

/-- Settles O16: as O15, with the layout of shape RC. -/
theorem encReadCombReturnsTheCombinedProgram : Obligations.EncReadCombReturnsTheCombinedProgram := by
  refine fun a r l s => ⟨rfl, ?_⟩
  rw [exec, execEncReadComb, encodeReadComb, State.returnProgram_ite_error, State.returnProgram_ite_error]
  rfl

/-- Settles O17: the address is the only operand that can be out of range. -/
theorem encSplitPtrReturnsThePointerProgram : Obligations.EncSplitPtrReturnsThePointerProgram := by
  refine fun a r s => ⟨rfl, ?_⟩
  rw [exec, execEncSplitPtr, encodeSplitPtr, State.returnProgram_ite_error]
  rfl

/-- Settles O18: as O15, with the layout of shape SR and 255 as the last length. -/
theorem encSplitReadReturnsTheReadProgram : Obligations.EncSplitReadReturnsTheReadProgram := by
  refine fun a l s => ⟨rfl, ?_⟩
  rw [exec, execEncSplitRead, encodeSplitRead, State.returnProgram_ite_error, State.returnProgram_ite_error]
  rfl

/-- Settles O19: DEC_RESULT finishes with `decodeResult`, which tests the sign of the status alone. -/
theorem decResultSeparatesTransportFailures : Obligations.DecResultSeparatesTransportFailures :=
  fun _ _ _ => ⟨rfl, rfl⟩

/-! ### Outcomes that the operands fix -/

theorem exec_twos_badWidth {w : Nat} (hw : w < 1) (v : Int) (s : State) :
    exec (.twos w v) s = .next (s.refuse .badWidth) := congrArg _ (if_pos hw)

theorem exec_twos_badOperand {w : Nat} (hw : ¬ w < 1) {v : Int} (hv : v < 0 ∨ 2 ^ w ≤ v) (s : State) :
    exec (.twos w v) s = .next (s.refuse .badOperand) := congrArg _ ((if_neg hw).trans (if_pos hv))

theorem exec_twos_of_range {w : Nat} (hw : ¬ w < 1) {v : Int} (hv : ¬ (v < 0 ∨ 2 ^ w ≤ v)) (s : State) :
    exec (.twos w v) s = .next (s.finish (.integer (twosValue w v))) := congrArg _ ((if_neg hw).trans (if_neg hv))

/-- In all states with ESCAPE_WRITE_LENGTH `e`, `i` ends at once with the same result, or with the same refusal. -/
def EndsAlike (e : Bool) (i : Instr) : Prop :=
  (∃ r, ∀ s : State, s.cfg.escapeWriteLength = e → exec i s = .next (s.finish r)) ∨
  (∃ f, ∀ s : State, s.cfg.escapeWriteLength = e → exec i s = .next (s.refuse f))

theorem endsAlike_of_finish {i : Instr} {r : Result} (h : ∀ s, exec i s = .next (s.finish r)) (e : Bool) : EndsAlike e i :=
  .inl ⟨r, fun s _ => h s⟩

theorem endsAlike_of_refuse {i : Instr} {f : Refusal} (h : ∀ s, exec i s = .next (s.refuse f)) (e : Bool) : EndsAlike e i :=
  .inr ⟨f, fun s _ => h s⟩

/-- An encoder gives one program or one refusal for each reading of 30_encoding.md R68. -/
theorem endsAlike_of_returnProgram {i : Instr} {enc : Bool → Except Refusal (List Byte)}
    (h : ∀ s, exec i s = .next (s.returnProgram (enc s.cfg.escapeWriteLength))) (e : Bool) : EndsAlike e i := by
  cases henc : enc e with
  | error f => exact .inr ⟨f, fun s hs => by rw [h, hs, henc, State.returnProgram_error]⟩
  | ok prog => exact .inl ⟨.program prog, fun s hs => by rw [h, hs, henc, State.returnProgram_ok]⟩

theorem endsAlike_twos (e : Bool) (w : Nat) (v : Int) : EndsAlike e (.twos w v) := by
  by_cases hw : w < 1
  · exact endsAlike_of_refuse (exec_twos_badWidth hw v) e
  · by_cases hv : v < 0 ∨ 2 ^ w ≤ v
    · exact endsAlike_of_refuse (exec_twos_badOperand hw hv) e
    · exact endsAlike_of_finish (exec_twos_of_range hw hv) e

/-- Settles O60: an encoder reads ESCAPE_WRITE_LENGTH alone, and the other operations of the list no field of the state. -/
theorem pureOperationsDependOnTheirOperandsAlone : Obligations.PureOperationsDependOnTheirOperandsAlone := by
  intro i hop htok e
  change EndsAlike e i
  cases i
  case encWrite a r p => exact endsAlike_of_returnProgram (enc := fun e => encodeWrite e a r p) (fun _ => rfl) e
  case encReadComb a r l => exact endsAlike_of_returnProgram (enc := fun _ => encodeReadComb a r l) (fun _ => rfl) e
  case encSplitPtr a r => exact endsAlike_of_returnProgram (enc := fun _ => encodeSplitPtr a r) (fun _ => rfl) e
  case encSplitRead a l => exact endsAlike_of_returnProgram (enc := fun _ => encodeSplitRead a l) (fun _ => rfl) e
  case decResult | ptDecodeAltitude | ptDecodePressure | ptDecodeTemperature | htConvTemperature | htConvHumidity
    | htDecodeTemperature | htDecodeHumidity => exact endsAlike_of_finish (fun _ => rfl) e
  case twos w v => exact endsAlike_twos e w v
  case tokEnd | tokEscape | tokStart | tokStop | tokAddress | tokFlags | tokRead | tokWrite => cases htok
  all_goals simp [opcode] at hop

end Sys2Proof.Machine

/-! ## The channels

A channel operation makes one exchange: after its checks it stands at exchange 0 of its list with a port Busy, and two steps
later the answer is consumed and the operation is over. -/

namespace Sys2Proof.Machine

/-! ### The one exchange of an operation -/

/-- A transaction begun with nothing running, by an operation that ends on its answer: in the end the exchange, the answer taken
and the result are all that is new. -/
theorem runsTo_transact_finish {s : State} {i : Instr} {st : Int} {d : List Byte} {rest : List (Int × List Byte)}
    {res : Result} (prog : List Byte) (hq : s.quiet) (ha : s.io.answers = (st, d) :: rest)
    (hans : ∀ u, answer i 0 (.transport st d) u = some (u.finish res)) :
    runsTo 2 (s.transact i 0 prog) { s with io := { s.io with
      answers := rest, trace := s.io.trace ++ [.transact s.cfg.busId prog], result := some res } } := by
  obtain ⟨hseq, hport, -⟩ := hq
  refine runsTo_transaction (i := i) (k := 0) rfl rfl ha ((hans _).trans (congrArg some ?_))
  simp [State.finish, State.transact, State.moveTo, State.record, hseq, hport]

/-- A transaction that the Caller issues: the checks pass, the program goes out, and the answer ends the operation. -/
theorem exec_transaction {s : State} {i : Instr} {ch : Channel} {code : Byte} {enc : Except Refusal (List Byte)}
    {prog : List Byte} {st : Int} {d : List Byte} {rest : List (Int × List Byte)} {res : Result}
    (hexec : exec i s = .next (channelTransact i 0 true ch code enc s)) (henc : enc = .ok prog)
    (hans : ∀ u, answer i 0 (.transport st d) u = some (u.finish res))
    (hq : s.quiet) (ho : s.owner ch ≠ .configured) (hc : s.chan ch = .opened) (ha : s.io.answers = (st, d) :: rest) :
    exec i s = .next (s.transact i 0 prog) ∧
    runsTo 2 (s.transact i 0 prog) { s with io := { s.io with
      answers := rest, trace := s.io.trace ++ [.transact s.cfg.busId prog], result := some res } } := by
  refine ⟨?_, runsTo_transact_finish prog hq ha hans⟩
  rw [hexec, henc, channelTransact_sends _ _ _ _ _ _ _ (fun _ => ho) hc]

/-! ### Reads and writes (42_channel.md R101, R102, R105, R106) -/

/-- Settles O21: the request is within the range of `encodeReadComb`, and CH_READ ends on the answer with `decodeResult`. -/
theorem chReadReturnsTheAnswerUnchanged : Obligations.ChReadReturnsTheAnswerUnchanged :=
  fun _ a r l _ _ _ _ hq haddr h1 h2 ho hc ha =>
    exec_transaction (prog := shapeRC a r l) rfl (encodeReadComb_of_range haddr h1 h2) (fun _ => rfl) hq ho hc ha

/-- Settles O22: as O21, with `encodeWrite`. -/
theorem chWriteSendsThePayload : Obligations.ChWriteSendsThePayload :=
  fun _ a r p s _ _ _ hq haddr h1 h2 ho hc ha =>
    exec_transaction (prog := shapeW s.cfg.escapeWriteLength a r p) rfl (encodeWrite_of_range haddr h1 h2) (fun _ => rfl)
      hq ho hc ha

/-- Settles O25: as O21, with `encodeSplitPtr` on CH_H, and PW_SET_POINTER ends on the answer with its status. -/
theorem setPointerReturnsTheStatusAlone : Obligations.SetPointerReturnsTheStatusAlone :=
  fun a r _ _ _ _ hq haddr ho hc ha =>
    exec_transaction (ch := .H) (prog := shapeSP a r) rfl (encodeSplitPtr_of_range haddr) (fun _ => rfl) hq ho hc ha

/-- Settles O26: as O21, with `encodeSplitRead` on CH_H. -/
theorem readAfterPointerAsksForExactlyL : Obligations.ReadAfterPointerAsksForExactlyL :=
  fun a l _ _ _ _ hq haddr h1 h2 ho hc ha =>
    exec_transaction (ch := .H) (prog := shapeSR a l) rfl (encodeSplitRead_of_range haddr h1 h2) (fun _ => rfl) hq ho hc ha

/-! ### CH_WRITE1 (R103) -/

/-- The sequencer position with another operation in it. -/
def Seq.withOp (op : Instr) : Seq → Seq
  | .idle => .idle
  | .exec _ k => .exec op k

/-- The operation a channel transaction works for shows in the sequencer position alone, and only when the program goes out. -/
theorem channelTransact_withOp (op op' : Instr) (k : Nat) (direct : Bool) (ch : Channel) (code : Byte)
    (prog : Except Refusal (List Byte)) (s : State) :
    let t := channelTransact op k direct ch code prog s
    (t.seq = .idle ∨ t.seq = .exec op k) ∧
      channelTransact op' k direct ch code prog s = { t with seq := t.seq.withOp op' } := by
  cases prog with
  | error e => exact ⟨.inl rfl, rfl⟩
  | ok p =>
    simp only [channelTransact]
    split_ifs
    · exact ⟨.inl rfl, rfl⟩
    · exact ⟨.inr rfl, rfl⟩
    · exact ⟨.inl rfl, rfl⟩

theorem shapeW_singleton (e : Bool) (a : Nat) (r b : Byte) :
    shapeW e a r [b] = [0x04, byte a, 0x02, 0x07] ++ (if e then [0x01] else []) ++ [0x02, r, b, 0x03, 0x00] := by
  cases e <;> rfl

/-- Settles O23: both operations are the one transaction `writeBegin` of the payload `[b]`, each under its own name. -/
theorem chWrite1IsChWriteOfOneByte : Obligations.ChWrite1IsChWriteOfOneByte := by
  intro ch a r b s
  obtain ⟨hseq, heq⟩ := channelTransact_withOp (.chWrite1 ch a r b) (.chWrite ch a r [b]) 0 true ch 0x12
    (encodeWrite s.cfg.escapeWriteLength a r [b]) s
  refine ⟨rfl, ⟨_, rfl, hseq, congrArg _ heq⟩, fun _ _ _ => rfl, fun hq haddr ho hc st d rest ha => ?_⟩
  refine exec_transaction rfl ?_ (fun _ => rfl) hq ho hc ha
  rw [encodeWrite_of_range haddr (by simp) (by simp), shapeW_singleton]

/-! ### CH_OPEN (R100) -/

theorem exec_chOpen_owned {ch : Channel} {s : State} (ho : s.owner ch = .configured) :
    exec (.chOpen ch) s = .next (s.fault (.channelOwned ch 0x10)) := congrArg _ (if_pos ho)

theorem exec_chOpen_free {ch : Channel} {s : State} (ho : s.owner ch ≠ .configured) :
    exec (.chOpen ch) s = .next (openBegin (.chOpen ch) 0 ch (fun s => s.finish .ok) s) := congrArg _ (if_neg ho)

theorem openBegin_opened {ch : Channel} {s : State} (hc : s.chan ch = .opened) (op : Instr) (k : Nat)
    (already : State → State) : openBegin op k ch already s = already s := if_pos hc

theorem openBegin_other_opened {ch : Channel} {s : State} (hc : s.chan ch = .closed)
    (hc' : s.chan (otherChannel ch) = .opened) (op : Instr) (k : Nat) (already : State → State) :
    openBegin op k ch already s = s.fault (.concurrentChannel ch) := by
  simp [openBegin, hc, hc']

theorem openBegin_closed {ch : Channel} {s : State} (hb : s.bothClosed) (op : Instr) (k : Nat)
    (already : State → State) : openBegin op k ch already s = s.claimBus op k := by
  obtain ⟨hP, hH⟩ := hb
  cases ch <;> simp [openBegin, hP, hH]

/-- Settles O20: the two tests of `openBegin` in their order, and past both the claim, whose answer `openAnswer` takes. -/
theorem chOpenClaimsTheBusOnce : Obligations.ChOpenClaimsTheBusOnce := by
  refine fun ch s => ⟨rfl, exec_chOpen_owned, fun ho hc => ?_, fun ho hc hc' => ?_, fun hq ho hb ok rest ha => ?_⟩
  · rw [exec_chOpen_free ho, openBegin_opened hc]
    rfl
  · rw [exec_chOpen_free ho, openBegin_other_opened hc hc']
    rfl
  · obtain ⟨hseq, hport, hclaim⟩ := hq
    refine ⟨?_, ?_, ?_⟩
    · rw [exec_chOpen_free ho, openBegin_closed hb]
      rfl
    · rintro rfl
      refine runsTo_claim (i := .chOpen ch) (k := 0) hport rfl rfl ha (congrArg some ?_)
      cases ch <;> simp [openAnswer, State.setChan, State.finish, hseq, hclaim]
    · rintro rfl
      refine runsTo_claim (i := .chOpen ch) (k := 0) hport rfl rfl ha (congrArg some ?_)
      simp [openAnswer, State.finish, hseq, hclaim]

/-! ### CH_CLOSE (R104) -/

theorem exec_chClose_owned {ch : Channel} {s : State} (ho : s.owner ch = .configured) :
    exec (.chClose ch) s = .next (s.fault (.channelOwned ch 0x14)) := congrArg _ (if_pos ho)

theorem exec_chClose_free {ch : Channel} {s : State} (ho : s.owner ch ≠ .configured) :
    exec (.chClose ch) s = .next (closeBegin ch (fun s => s.finish .ok) s) := congrArg _ (if_neg ho)

theorem closeBegin_opened {ch : Channel} {s : State} (hc : s.chan ch = .opened) (closed : State → State) :
    closeBegin ch closed s = closed (s.release.setChan ch .closed) := if_pos hc

theorem closeBegin_closed {ch : Channel} {s : State} (hc : s.chan ch = .closed) (closed : State → State) :
    closeBegin ch closed s = s.fault (.doubleClose ch) := by
  simp [closeBegin, hc]

/-- Settles O24: an unowned channel is closed by `closeBegin`, which tests the channel alone. -/
theorem chCloseReleasesOrFaults : Obligations.ChCloseReleasesOrFaults := by
  refine fun ch s => ⟨rfl, exec_chClose_owned, fun ho hc => ?_, fun ho hc => ?_⟩
  · rw [exec_chClose_free ho, closeBegin_opened hc]
    cases ch <;> rfl
  · rw [exec_chClose_free ho, closeBegin_closed hc]
    rfl

end Sys2Proof.Machine

/-! ## TWOS and the pressure decoders

The two's-complement value of R110 is `BitVec.toInt`, and the assembled bytes of 00_scope.md R13 are a bit vector's number: both
are tied to the library here, so that its bounds and conversions are at hand. -/

namespace Sys2Proof.Machine

/-! ### TWOS (43_pressure.md R110) -/

/-- `v[i] = 1`, as R110 writes it in integers, is a bit test. -/
theorem intCast_div_two_pow_mod_two_eq_one_iff (n i : Nat) : (n : Int) / 2 ^ i % 2 = 1 ↔ n.testBit i = true := by
  rw [Nat.testBit_eq_decide_div_mod_eq, decide_eq_true_iff]
  exact_mod_cast Iff.rfl

theorem twosValue_natCast (w n : Nat) :
    twosValue w n = if n.testBit (w - 1) then (n : Int) - 2 ^ w else n := by
  simp only [twosValue, intCast_div_two_pow_mod_two_eq_one_iff]

theorem twosValue_toNat {w : Nat} (x : BitVec w) : twosValue w x.toNat = x.toInt := by
  rw [twosValue_natCast, BitVec.toInt_eq_msb_cond, BitVec.msb_eq_getLsbD_last, BitVec.getLsbD, Nat.cast_pow, Nat.cast_ofNat]

/-- Settles O28: on its domain TWOS is `BitVec.toInt`, whose bounds are the range of §8. -/
theorem twosReadsTheSignBit : Obligations.TwosReadsTheSignBit := by
  refine fun w v s => ⟨rfl, fun hw => exec_twos_badWidth hw v s, fun hw hv => exec_twos_badOperand (by omega) hv s,
    fun hw h0 hlt => ⟨twosValue w v, exec_twos_of_range (by omega) (by omega) s, ?_⟩⟩
  lift v to Nat using h0
  have hn : v < 2 ^ w := by exact_mod_cast hlt
  have hint : twosValue w v = (BitVec.ofNat w v).toInt := by
    rw [← twosValue_toNat, BitVec.toNat_ofNat, Nat.mod_eq_of_lt hn]
  exact ⟨twosValue_natCast w v, hint ▸ BitVec.le_toInt _, hint ▸ BitVec.toInt_lt⟩

/-! ### The decoders (43_pressure.md R116 to R119) -/

theorem toNat_append_byte {w : Nat} (x : BitVec w) (b : Byte) : (x ++ b).toNat = x.toNat * 2 ^ 8 + b.toNat := by
  rw [BitVec.toNat_append, ← Nat.shiftLeft_add_eq_or_of_lt b.isLt, Nat.shiftLeft_eq]

theorem be16_cons (b c : Byte) (bs : List Byte) : be16 (b :: c :: bs) = (b ++ c).toNat := (toNat_append_byte b c).symm

theorem be24_cons (b c d : Byte) (bs : List Byte) : be24 (b :: c :: d :: bs) = (b ++ c ++ d).toNat := by
  rw [toNat_append_byte, toNat_append_byte, Nat.add_mul, Nat.mul_assoc]
  rfl

theorem ptAltitude_of_length {raw : List Byte} (h : raw.length = 6) :
    ptAltitude raw = .avail ((twosValue 24 (be24 (slice raw 0 3)) : Rat) / 256) :=
  (if_pos h).trans (congrArg _ (Rat.mkRat_eq_div _ _))

theorem ptPressure_of_length {raw : List Byte} (h : raw.length = 6) :
    ptPressure raw = .avail ((be24 (slice raw 0 3) : Rat) / 64) :=
  (if_pos h).trans (congrArg _ (Rat.mkRat_eq_div _ _))

theorem ptTemperature_of_length {raw : List Byte} (h : raw.length = 6) :
    ptTemperature raw = .avail ((be16 (slice raw 3 5) : Rat) / 256) :=
  (if_pos h).trans (congrArg _ (Rat.mkRat_eq_div _ _))

theorem ptDecoded_of_length_ne {raw : List Byte} (h : raw.length ≠ 6) (q : Rat) : ptDecoded raw q = .unavailable := if_neg h

/-- Settles O34: six bytes are assembled into bit vectors, and on another length `ptDecoded` does not look at the value. -/
theorem ptDecodersFollowTheirFormulas : Obligations.PtDecodersFollowTheirFormulas := by
  intro s
  have hreturns {i : Instr} {v w : Value} (hi : exec i s = .next (s.finish (.value w))) (hw : w = v) :
      exec i s = .next (s.finish (.value v)) := hw ▸ hi
  refine ⟨fun b₀ b₁ b₂ b₃ b₄ b₅ => ⟨rfl, rfl, rfl, hreturns rfl ?_, hreturns rfl ?_, hreturns rfl ?_⟩, fun raw hne =>
    ⟨hreturns rfl (ptDecoded_of_length_ne hne _), hreturns rfl (ptDecoded_of_length_ne hne _),
      hreturns rfl (ptDecoded_of_length_ne hne _)⟩⟩
  · rw [ptAltitude_of_length rfl, ← twosValue_toNat, ← be24_cons]
    rfl
  · rw [ptPressure_of_length rfl, ← be24_cons]
    rfl
  · rw [ptTemperature_of_length rfl, ← be16_cons]
    rfl

/-! ### The altitude's pattern and back (43_pressure.md §8) -/

theorem be24_eq_natOfBE {bs : List Byte} (h : bs.length = 3) : be24 bs = natOfBE bs := by
  obtain ⟨b, c, d, rfl⟩ := List.length_eq_three.mp h
  simp [be24, natOfBE, elementAt, Nat.add_assoc]

theorem be24_slice_bytesBE (v : Nat) (bs : List Byte) : be24 (slice (bytesBE 3 v ++ bs) 0 3) = v % 256 ^ 3 := by
  have hslice : slice (bytesBE 3 v ++ bs) 0 3 = bytesBE 3 v := List.take_left' (bytesBE_length 3 v)
  rw [hslice, be24_eq_natOfBE (bytesBE_length 3 v), natOfBE_bytesBE]

theorem twosValue_emod {w : Nat} (hw : 0 < w) {n : Int} (h1 : -2 ^ (w - 1) ≤ n) (h2 : n < 2 ^ (w - 1)) :
    twosValue w (n % 2 ^ w).toNat = n := by
  have hx : (n % 2 ^ w).toNat = (BitVec.ofInt w n).toNat := by rw [BitVec.toNat_ofInt, Nat.cast_pow, Nat.cast_ofNat]
  rw [hx, twosValue_toNat, BitVec.toInt_ofInt_eq_self hw h1 h2]

theorem ptAltitude_bytesBE {n : Int} (h1 : -(2 ^ 23) ≤ n) (h2 : n < 2 ^ 23) (x y z : Byte) :
    ptAltitude (bytesBE 3 (n % 2 ^ 24).toNat ++ [x, y, z]) = .avail ((n : Rat) / 256) := by
  have hlt : (n % 2 ^ 24).toNat < 256 ^ 3 := by omega
  rw [ptAltitude_of_length rfl, be24_slice_bytesBE, Nat.mod_eq_of_lt hlt, twosValue_emod (by decide) h1 h2]

/-- Settles O35: TWOS undoes the reduction to 24 bits, and the floor is less than one step below the altitude. -/
theorem altitudeRoundTrip : Obligations.AltitudeRoundTrip := by
  refine fun x y z => ⟨fun n h1 h2 => ptAltitude_bytesBE h1 h2 x y z,
    fun q h1 h2 => ⟨_, ptAltitude_bytesBE ?_ ?_ x y z, ?_⟩⟩
  · exact Rat.le_floor_iff.mpr (by push_cast; linarith)
  · exact Rat.floor_lt_iff.mpr (by push_cast; linarith)
  · have hle := Rat.floor_le (q * 256)
    have hlt := Rat.lt_floor (x := q * 256)
    rw [abs_lt]
    constructor <;> linarith

end Sys2Proof.Machine

/-! ## The pressure driver

A driver's exchange is the transaction of Laws/Run.lean without the ownership test: the program goes out, the Transport answers,
and the Sequencer consumes the answer with what follows it. The rules ask only for the arms of `answer` and `proceed` at the
exchange's position, so that they serve the driver operations and the measurements. -/

namespace Sys2Proof.Machine

/-! ### Exchanges made by an operation that goes on -/

/-- The exchanges `xs` have been made, and the Transport's answers still to come are `rest`. -/
def State.exchanged (s : State) (xs : List Exchange) (rest : List (Int × List Byte)) : State :=
  { s with io := { s.io with answers := rest, trace := s.io.trace ++ xs } }

@[simp] theorem State.exchanged_cfg (s : State) (xs : List Exchange) (rest : List (Int × List Byte)) :
    (s.exchanged xs rest).cfg = s.cfg := rfl

@[simp] theorem State.exchanged_pt (s : State) (xs : List Exchange) (rest : List (Int × List Byte)) :
    (s.exchanged xs rest).pt = s.pt := rfl

@[simp] theorem State.exchanged_exchanged (s : State) (xs ys : List Exchange) (rest rest' : List (Int × List Byte)) :
    (s.exchanged xs rest).exchanged ys rest' = s.exchanged (xs ++ ys) rest' := by
  simp [State.exchanged]

@[simp] theorem State.setPt_exchanged (s : State) (xs : List Exchange) (rest : List (Int × List Byte)) (v : PtDriver) :
    (s.exchanged xs rest).setPt v = (s.setPt v).exchanged xs rest := rfl

@[simp] theorem State.setPt_setPt (s : State) (v v' : PtDriver) : (s.setPt v).setPt v' = s.setPt v' := rfl

/-! The sequencer position is independent of what else is written, and a later one replaces it. -/

@[simp] theorem State.exchanged_moveTo (s : State) (op : Instr) (k : Nat) (xs : List Exchange)
    (rest : List (Int × List Byte)) : (s.moveTo op k).exchanged xs rest = (s.exchanged xs rest).moveTo op k := rfl

@[simp] theorem State.setPt_moveTo (s : State) (op : Instr) (k : Nat) (v : PtDriver) :
    (s.moveTo op k).setPt v = (s.setPt v).moveTo op k := rfl

@[simp] theorem State.moveTo_moveTo (s : State) (op op' : Instr) (k k' : Nat) :
    (s.moveTo op k).moveTo op' k' = s.moveTo op' k' := rfl

/-- Once an operation begun with nothing running has finished, its position is gone and its result is all it leaves. -/
theorem runsTo_of_finish {n : Nat} {s u : State} {op : Instr} {k : Nat} {res : Result}
    (h : runsTo n u ((s.moveTo op k).finish res)) (hseq : s.seq = .idle) :
    runsTo n u { s with io := { s.io with result := some res } } := by
  simpa [State.moveTo, State.finish, hseq] using h

/-- One transaction of a running operation, from Busy to consumed: its answer is read in the state where the exchange is made. -/
theorem runsTo_transact {s t : State} {op : Instr} {k : Nat} {prog : List Byte} {st : Int} {d : List Byte}
    {rest : List (Int × List Byte)} (hport : s.port = .idle) (ha : s.io.answers = (st, d) :: rest)
    (hans : answer op k (.transport st d) ((s.exchanged [.transact s.cfg.busId prog] rest).moveTo op k) = some t) :
    runsTo 2 (s.transact op k prog) t := by
  refine runsTo_transaction rfl rfl ha (Eq.trans (congrArg _ ?_) hans)
  simp [State.exchanged, State.moveTo, State.transact, State.record, hport]

/-- The claim has been made and answered, and the claim port's answers still to come are `claims`. -/
def State.claimed (s : State) (claims : List Bool) : State :=
  { s with io := { s.io with
    claims := claims, trace := s.io.trace ++ [.claim s.cfg.busSda s.cfg.busScl s.cfg.busBitrate] } }

/-- One claim of a running operation, from Busy to consumed. -/
theorem runsTo_claimBus {s t : State} {op : Instr} {k : Nat} {ok : Bool} {claims : List Bool} (hr : s.atRest)
    (hcl : s.io.claims = ok :: claims) (hans : answer op k (.claim ok) ((s.claimed claims).moveTo op k) = some t) :
    runsTo 2 (s.claimBus op k) t := by
  obtain ⟨hport, hclaim⟩ := hr
  refine runsTo_claim hport rfl rfl hcl (Eq.trans (congrArg _ ?_) hans)
  simp [State.claimed, State.moveTo, State.claimBus, State.record, hclaim]

/-- An operation begun with nothing running that ends on its claim's answer leaves the claim and its result alone. -/
theorem runsTo_claimBus_finish {s : State} {op : Instr} {ok : Bool} {claims : List Bool} {res : Result} (hq : s.quiet)
    (hcl : s.io.claims = ok :: claims) (hans : ∀ u, answer op 0 (.claim ok) u = some (u.finish res)) :
    runsTo 2 (s.claimBus op 0) { s with io := { s.io with
      claims := claims, trace := s.io.trace ++ [.claim s.cfg.busSda s.cfg.busScl s.cfg.busBitrate], result := some res } } := by
  obtain ⟨hseq, hr⟩ := hq
  exact runsTo_of_finish (runsTo_claimBus hr hcl (hans _)) hseq

/-! ### The PT driver's own programs -/

theorem ptGuard_configured {s : State} (h : s.pt.st = .configured) (code : Byte) (body : State → State) :
    ptGuard code body s = body s := if_pos h

theorem ptGuard_fault {s : State} (h : s.pt.st ≠ .configured) (code : Byte) (body : State → State) :
    ptGuard code body s = s.fault (.driverState .PT code s.pt.st) := if_neg h

/-- The exchange of a PT write of one byte. -/
def ptWriteExchange (c : Config) (r b : Byte) : Exchange := .transact c.busId (shapeW c.escapeWriteLength addrPt r [b])

theorem ptWriteExchange_eq (c : Config) (r b : Byte) : ptWriteExchange c r b = .transact c.busId
    ([0x04, 0x60, 0x02, 0x07] ++ (if c.escapeWriteLength then [0x01] else []) ++ [0x02, r, b, 0x03, 0x00]) :=
  congrArg _ (shapeW_singleton ..)

theorem ptWrite_opened {s : State} (hc : s.chP = .opened) (op : Instr) (k : Nat) (r b : Byte) :
    ptWrite op k r b s = s.transact op k (shapeW s.cfg.escapeWriteLength addrPt r [b]) := by
  obtain ⟨-, h⟩ | ⟨hc', -⟩ := ptWrite_cases op k r b s
  · exact h
  · simp [hc] at hc'

theorem ptRead_opened {s : State} (hc : s.chP = .opened) (op : Instr) (k : Nat) (r : Byte) {l : Nat} (h1 : 1 ≤ l)
    (h2 : l ≤ 254) : readBegin op k false .P addrPt r l s = s.transact op k (shapeRC addrPt r l) := by
  rw [readBegin, encodeReadComb_of_range (by decide) h1 h2]
  exact channelTransact_sends _ _ _ .P _ _ _ (by simp) hc

/-- A PT write of a running operation, made and answered. -/
theorem runsTo_ptWrite {s t : State} {op : Instr} {k : Nat} {r b : Byte} {a : Int × List Byte}
    {rest : List (Int × List Byte)} (hport : s.port = .idle) (hc : s.chP = .opened) (ha : s.io.answers = a :: rest)
    (hans : answer op k (.transport a.1 a.2) ((s.exchanged [ptWriteExchange s.cfg r b] rest).moveTo op k) = some t) :
    runsTo 2 (ptWrite op k r b s) t := by
  rw [ptWrite_opened hc]
  exact runsTo_transact hport ha hans

/-! ### Mode selection (43_pressure.md R112, R113) -/

/-- The exchanges of the two control writes of a mode. -/
def selectExchanges (c : Config) (m : Mode) : List Exchange :=
  [ptWriteExchange c c.ptRegCtrl (ctrlOs c m), ptWriteExchange c c.ptRegCtrl (ctrlRun c m)]

/-- The two control writes at the exchanges `k` and `k + 1` of an operation that then selects the mode and does `done`. -/
theorem runsTo_select {s t : State} {op : Instr} {k : Nat} {m : Mode} {done : State → State} {a₁ a₂ : Int × List Byte}
    {rest : List (Int × List Byte)}
    (hfirst : ∀ u st d, answer op k (.transport st d) u = some (u.moveTo op (k + 1)))
    (hproceed : ∀ u, proceed op (k + 1) u = some (selectRun op (k + 1) m u))
    (hlast : ∀ u st d, answer op (k + 1) (.transport st d) u = some (done (selectEnd m u)))
    (hr : s.atRest) (hc : s.chP = .opened) (ha : s.io.answers = a₁ :: a₂ :: rest)
    (ht : selectEnd m ((s.exchanged (selectExchanges s.cfg m) rest).moveTo op (k + 1)) = t) :
    runsTo 5 (selectOs op k m s) (done t) := by
  subst ht
  obtain ⟨hport, hclaim⟩ := hr
  refine runsTo_trans (n := 2) (m := 3) (runsTo_ptWrite hport hc ha (hfirst _ _ _)) ?_
  refine runsTo_step (step_proceed hport hclaim rfl (hproceed _)) (runsTo_ptWrite hport hc rfl ((hlast _ _ _).trans ?_))
  simp [selectExchanges]

/-! ### Construction (43_pressure.md R111) -/

theorem ptConstructBegin_configured {s : State} (h : s.pt.st = .configured) (op : Instr) :
    ptConstructBegin op s = s.fault (.driverState .PT 0x20 .configured) := h ▸ if_pos h

theorem ptConstructBegin_free {s : State} (h : s.pt.st ≠ .configured) (op : Instr) :
    ptConstructBegin op s = openBegin op 0 .P (fun s => dataflagWrite op (s.setPtReady false)) s := if_neg h

/-- `op` makes a PT construction at its exchanges 0 to 3 and then does `done`, or `failed` where the claim fails. -/
def BuildsPt (op : Instr) (m : Mode) (done failed : State → State) : Prop :=
  ∀ k < 4, ∀ u, proceed op k u = ptConstructProceed op m k u ∧
    ∀ ans, answer op k ans u = ptConstructAnswer op m done failed k ans u

theorem buildsPt_ptConstruct (m : Mode) : BuildsPt (.ptConstruct m) m (fun s => s.finish .ok)
    (fun s => s.finish (.busUnavailable .P .openBus)) := fun _ _ _ => ⟨rfl, fun _ => rfl⟩

/-- The exchanges of a PT construction after its claim. -/
def ptBuildExchanges (c : Config) (m : Mode) : List Exchange :=
  ptWriteExchange c c.ptRegDataflag c.ptDataflagEnable :: selectExchanges c m

section

variable {s : State} {op : Instr} {m : Mode} {done failed : State → State} {a₁ a₂ a₃ : Int × List Byte}
  {rest : List (Int × List Byte)}

/-- The three writes of a construction on the open channel. -/
theorem runsTo_ptBuild (hb : BuildsPt op m done failed) (hr : s.atRest) (hc : s.chP = .opened)
    (ha : s.io.answers = a₁ :: a₂ :: a₃ :: rest) :
    runsTo 8 (dataflagWrite op s)
      (done (((s.setPt ⟨.configured, modeSelected m, false⟩).exchanged (ptBuildExchanges s.cfg m) rest).moveTo op 3)) := by
  have ⟨hport, hclaim⟩ := hr
  refine runsTo_trans (n := 2) (m := 6) (runsTo_ptWrite hport hc ha ((hb 1 (by decide) _).2 _)) ?_
  refine runsTo_step (step_proceed hport hclaim rfl (hb 2 (by decide) _).1) ?_
  refine runsTo_select (a₁ := a₂) (a₂ := a₃) (rest := rest) (fun u _ _ => (hb 2 (by decide) u).2 _)
    (fun u => (hb 3 (by decide) u).1) (fun u _ _ => (hb 3 (by decide) u).2 _) ?_ ?_ ?_ ?_
  exacts [hr, hc, rfl, by simp [selectEnd, ptBuildExchanges]]

/-- The claim of a construction, granted, and its three writes. -/
theorem runsTo_ptBuild_claimed (hb : BuildsPt op m done failed) (hr : s.atRest) {claims : List Bool}
    (hcl : s.io.claims = true :: claims) (ha : s.io.answers = a₁ :: a₂ :: a₃ :: rest) :
    runsTo 11 (s.claimBus op 0)
      (done (((((s.claimed claims).setChan .P .opened).setPt ⟨.configured, modeSelected m, false⟩).exchanged
        (ptBuildExchanges s.cfg m) rest).moveTo op 3)) := by
  refine runsTo_trans (n := 2) (m := 9) (runsTo_claimBus hr hcl ((hb 0 (by decide) _).2 _)) ?_
  refine runsTo_step (step_proceed hr.1 hr.2 rfl (hb 1 (by decide) _).1) ?_
  exact runsTo_ptBuild hb hr rfl ha

end

/-- Settles O29: the construction's exchanges, with PT_CONSTRUCT finishing with Ok when it has constructed. -/
theorem ptConstructConfiguresInThreeWrites : Obligations.PtConstructConfiguresInThreeWrites := by
  intro m s a₁ a₂ a₃ rest hq hpt ha i write os run mode first sends claimed
  obtain ⟨hseq, hr⟩ := hq
  have hsends : ptBuildExchanges s.cfg m = sends := by
    simp only [ptBuildExchanges, selectExchanges, ptWriteExchange_eq]
    cases m <;> rfl
  have hmode : modeSelected m = mode := by cases m <;> rfl
  rw [← hsends, ← hmode]
  refine ⟨fun hb claims hcl => ⟨?_, ?_⟩, fun hc => ?_⟩
  · exact congrArg _ ((ptConstructBegin_free hpt _).trans (openBegin_closed hb _ _ _))
  · exact runsTo_of_finish (runsTo_ptBuild_claimed (buildsPt_ptConstruct m) hr hcl ha) hseq
  · intro sent
    have hsent : dataflagWrite i (s.setPtReady false) = sent :=
      (ptWrite_opened (s := s.setPtReady false) hc ..).trans (congrArg _ (shapeW_singleton ..))
    refine ⟨congrArg _ ((ptConstructBegin_free hpt _).trans ((openBegin_opened (ch := .P) hc _ _ _).trans hsent)), ?_⟩
    rw [← hsent]
    exact runsTo_of_finish (runsTo_ptBuild (s := s.setPtReady false) (buildsPt_ptConstruct m) hr hc ha) hseq

/-- The operation that selects a mode. -/
def selectInstr : Mode → Instr
  | .altitude => .ptSelectAltitude
  | .barometric => .ptSelectBarometric

theorem exec_selectInstr (m : Mode) (s : State) :
    exec (selectInstr m) s = .next (ptGuard (opcode (selectInstr m)) (selectOs (selectInstr m) 0 m) s) := by
  cases m <;> rfl

theorem answer_selectInstr (m : Mode) (k : Nat) (ans : Answer) (s : State) :
    answer (selectInstr m) k ans s = answerSelect (selectInstr m) m k ans s := by
  cases m <;> rfl

theorem proceed_selectInstr (m : Mode) (k : Nat) (s : State) :
    proceed (selectInstr m) k s = proceedSelect (selectInstr m) m k s := by
  cases m <;> rfl

/-- Settles O31: the two control writes from exchange 0 on, after which the selection finishes with Ok. -/
theorem modeSelectionIssuesBothWrites : Obligations.ModeSelectionIssuesBothWrites := by
  intro i code os run mode s hi
  obtain ⟨m, rfl, rfl, rfl, rfl, rfl⟩ : ∃ m, i = selectInstr m ∧ code = opcode (selectInstr m) ∧ os = ctrlOs s.cfg m ∧
      run = ctrlRun s.cfg m ∧ mode = modeSelected m :=
    hi.elim (fun h => ⟨.altitude, h⟩) (fun h => ⟨.barometric, h⟩)
  refine ⟨rfl, fun h => (exec_selectInstr m s).trans (congrArg _ (ptGuard_fault h _ _)),
    fun hq hpt hc a₁ a₂ rest ha => ?_⟩
  obtain ⟨hseq, hr⟩ := hq
  intro write sent
  have hsent : selectOs (selectInstr m) 0 m s = sent :=
    (ptWrite_opened hc ..).trans (congrArg _ (shapeW_singleton ..))
  have hsends : selectExchanges s.cfg m =
      [.transact s.cfg.busId (write (ctrlOs s.cfg m)), .transact s.cfg.busId (write (ctrlRun s.cfg m))] := by
    rw [selectExchanges, ptWriteExchange_eq, ptWriteExchange_eq]
  refine ⟨(exec_selectInstr m s).trans (congrArg _ ((ptGuard_configured hpt _ _).trans hsent)), ?_⟩
  rw [← hsent, ← hsends]
  exact runsTo_of_finish (s := (selectEnd m s).exchanged (selectExchanges s.cfg m) rest)
    (runsTo_select (done := fun s => s.finish .ok) (fun u _ _ => answer_selectInstr m 0 _ u)
      (fun u => proceed_selectInstr m 1 u) (fun u _ _ => answer_selectInstr m 1 _ u) hr hc ha rfl) hseq

/-! ### Readiness and the raw fetch (43_pressure.md R114, R115) -/

theorem ptReadiness_decodeResult (st : Int) (d : List Byte) : ptReadiness (decodeResult st d) =
    (decide (0 ≤ st) && (match d with | [] => false | b :: _ => b.toNat.testBit 3)) := by
  by_cases h : st < 0
  · have h0 : ¬ 0 ≤ st := by omega
    simp [decodeResult, h, h0, ptReadiness]
  · have h0 : 0 ≤ st := by omega
    cases d with
    | nil => simp [decodeResult, h, ptReadiness]
    | cons b bs =>
      simp [decodeResult, h, h0, ptReadiness]
      rfl

/-- Settles O32: the read of the status register, whose answer is also the latch. -/
theorem ptReadinessIsStatusBitThree : Obligations.PtReadinessIsStatusBitThree := by
  refine fun s => ⟨rfl, fun h => congrArg _ (ptGuard_fault h _ _), fun hq hpt hc st d rest ha => ?_⟩
  obtain ⟨hseq, hport, -⟩ := hq
  intro prog trace sent rdy
  have hsent : ptIsReadyBegin .ptIsReady 0 s = sent :=
    (ptGuard_configured hpt _ _).trans (ptRead_opened hc _ _ _ (by decide) (by decide))
  have hrdy : ptReadiness (decodeResult st d) = rdy := ptReadiness_decodeResult st d
  refine ⟨congrArg _ hsent, ?_⟩
  rw [← hrdy]
  have hrun : runsTo 2 sent _ := runsTo_transact (op := .ptIsReady) (k := 0) hport ha rfl
  exact runsTo_of_finish (s := (s.exchanged [.transact s.cfg.busId prog] rest).setPtReady (ptReadiness (decodeResult st d)))
    hrun hseq

theorem fetchResult_decodeResult (st : Int) (d : List Byte) :
    fetchResult (decodeResult st d) = if st < 0 then .transportError st else .ready d := by
  unfold decodeResult
  split <;> rfl

theorem ptFetchBegin_notReady {s : State} (hpt : s.pt.st = .configured) (h : s.pt.ready = false) (op : Instr) (k : Nat)
    (notReady : State → State) : ptFetchBegin op k notReady s = notReady s := by
  simp [ptFetchBegin, ptGuard_configured hpt, h]

theorem ptFetchBegin_ready {s : State} (hpt : s.pt.st = .configured) (h : s.pt.ready = true) (op : Instr) (k : Nat)
    (notReady : State → State) : ptFetchBegin op k notReady s =
      readBegin op k false .P addrPt s.cfg.ptRegData ptDataLen (s.setPtReady false) := by
  simp [ptFetchBegin, ptGuard_configured hpt, h]

/-- Settles O33: past the guard `ptFetchBegin` tests the latch alone, and clears it before the read. -/
theorem ptFetchNeedsAndClearsTheLatch : Obligations.PtFetchNeedsAndClearsTheLatch := by
  refine fun s => ⟨rfl, fun h => congrArg _ (ptGuard_fault h _ _), fun hpt hready => ?_,
    fun hq hpt hready hc st d rest ha => ?_⟩
  · exact congrArg _ (ptFetchBegin_notReady hpt hready _ _ _)
  · obtain ⟨hseq, hport, -⟩ := hq
    intro prog trace sent
    have hsent : ptFetchBegin .ptFetchRaw 0 (fun s => s.finish (.fetch .notReady)) s = sent :=
      (ptFetchBegin_ready hpt hready _ _ _).trans
        (ptRead_opened (s := s.setPtReady false) hc _ _ _ (by decide) (by decide))
    refine ⟨congrArg _ hsent, ?_⟩
    rw [← fetchResult_decodeResult]
    have hrun : runsTo 2 sent _ := runsTo_transact (s := s.setPtReady false) (op := .ptFetchRaw) (k := 0) hport ha rfl
    exact runsTo_of_finish (s := (s.setPtReady false).exchanged [.transact s.cfg.busId prog] rest) hrun hseq

/-! ### Both drivers: failed constructions and the close (43_pressure.md R111, R120, 44_humidity.md R130, R139) -/

theorem htGuard_fault {s : State} (h : s.ht.st ≠ .configured) (code : Byte) (body : State → State) :
    htGuard code body s = s.fault (.driverState .HT code s.ht.st) := if_neg h

theorem htConstructBegin_configured {s : State} (h : s.ht.st = .configured) (op : Instr) :
    htConstructBegin op s = s.fault (.driverState .HT 0x30 .configured) := h ▸ if_pos h

theorem htConstructBegin_free {s : State} (h : s.ht.st ≠ .configured) (op : Instr) :
    htConstructBegin op s = openBegin op 0 .H (fun s => setupWrite op (s.setHtReady false)) s := if_neg h

/-- Settles O30: the guard, then the two refusals of `openBegin`, and a failed claim's answer, which only gives its result. -/
theorem constructionsThatFailChangeNoDriver : Obligations.ConstructionsThatFailChangeNoDriver := by
  refine fun s m => ⟨fun hpt => ?_, fun hht => ?_, fun hpt hc hc' => ?_, fun hht hc hc' => ?_,
    fun hq hb claims hcl => ⟨fun hpt => ⟨s.claimBus (.ptConstruct m) 0, ?_, ?_⟩,
      fun hht => ⟨s.claimBus .htConstruct 0, ?_, ?_⟩⟩⟩
  · exact congrArg _ (ptConstructBegin_configured hpt _)
  · exact congrArg _ (htConstructBegin_configured hht _)
  · exact congrArg _ ((ptConstructBegin_free hpt _).trans (openBegin_other_opened (ch := .P) hc hc' _ _ _))
  · exact congrArg _ ((htConstructBegin_free hht _).trans (openBegin_other_opened (ch := .H) hc hc' _ _ _))
  · exact congrArg _ ((ptConstructBegin_free hpt _).trans (openBegin_closed hb _ _ _))
  · exact runsTo_claimBus_finish hq hcl fun _ => rfl
  · exact congrArg _ ((htConstructBegin_free hht _).trans (openBegin_closed hb _ _ _))
  · exact runsTo_claimBus_finish hq hcl fun _ => rfl

/-- Settles O36: past its guard a close releases the Open channel. -/
theorem driverCloseReleasesTheBus : Obligations.DriverCloseReleasesTheBus := fun s =>
  ⟨rfl, rfl, fun h => congrArg _ (ptGuard_fault h _ _), fun h hc => congrArg _ (ptCloseWith_configured .ok s h hc),
    fun h => congrArg _ (htGuard_fault h _ _), fun h hc => congrArg _ (htCloseWith_configured .ok s h hc)⟩

end Sys2Proof.Machine

/-! ## The humidity driver

The driver's programs are encodable where the parameters have their types, so that on the open channel each goes out and is
answered as those of the pressure driver are. The conversions round in integers; what they round is tied to the exact rational value. -/

namespace Sys2Proof.Machine

/-! ### The HT driver's own programs -/

@[simp] theorem State.exchanged_ht (s : State) (xs : List Exchange) (rest : List (Int × List Byte)) :
    (s.exchanged xs rest).ht = s.ht := rfl

@[simp] theorem State.setHt_exchanged (s : State) (xs : List Exchange) (rest : List (Int × List Byte)) (v : HtDriver) :
    (s.exchanged xs rest).setHt v = (s.setHt v).exchanged xs rest := rfl

@[simp] theorem State.setHt_moveTo (s : State) (op : Instr) (k : Nat) (v : HtDriver) :
    (s.moveTo op k).setHt v = (s.setHt v).moveTo op k := rfl

theorem htGuard_configured {s : State} (h : s.ht.st = .configured) (code : Byte) (body : State → State) :
    htGuard code body s = body s := if_pos h

/-- The exchange of the setup-word write. -/
def setupExchange (c : Config) : Exchange :=
  .transact c.busId (shapeW c.escapeWriteLength addrHt c.htRegControl [c.htSetup0, c.htSetup1])

/-- The exchange of the construction's pointer set. -/
def pointerExchange (c : Config) : Exchange := .transact c.busId (shapeSP addrHt c.htRegRead)

theorem shapeW_pair (e : Bool) (a : Nat) (r b c : Byte) :
    shapeW e a r [b, c] = [0x04, byte a, 0x02, 0x07] ++ (if e then [0x01] else []) ++ [0x03, r, b, c, 0x03, 0x00] := by
  cases e <;> rfl

theorem setupWrite_opened {s : State} (hc : s.chH = .opened) (op : Instr) : setupWrite op s =
    s.transact op 1 (shapeW s.cfg.escapeWriteLength addrHt s.cfg.htRegControl [s.cfg.htSetup0, s.cfg.htSetup1]) := by
  rw [setupWrite, writeBegin, encodeWrite_of_range (by decide) (by simp) (by simp)]
  exact channelTransact_sends _ _ _ .H _ _ _ (by simp) hc

theorem htSetPointer_opened {s : State} (hc : s.chH = .opened) (op : Instr) (k : Nat) (r : Byte) :
    setPointerBegin op k false addrHt r s = s.transact op k (shapeSP addrHt r) := by
  rw [setPointerBegin, encodeSplitPtr_of_range (by decide)]
  exact channelTransact_sends _ _ _ .H _ _ _ (by simp) hc

theorem htRead_opened {s : State} (hc : s.chH = .opened) (op : Instr) (k : Nat) {l : Nat} (h1 : 1 ≤ l) (h2 : l ≤ 255) :
    readAfterPointerBegin op k false addrHt l s = s.transact op k (shapeSR addrHt l) := by
  rw [readAfterPointerBegin, encodeSplitRead_of_range (by decide) h1 h2]
  exact channelTransact_sends _ _ _ .H _ _ _ (by simp) hc

/-- The setup write of a running operation, made and answered. -/
theorem runsTo_setupWrite {s t : State} {op : Instr} {a : Int × List Byte} {rest : List (Int × List Byte)}
    (hport : s.port = .idle) (hc : s.chH = .opened) (ha : s.io.answers = a :: rest)
    (hans : answer op 1 (.transport a.1 a.2) ((s.exchanged [setupExchange s.cfg] rest).moveTo op 1) = some t) :
    runsTo 2 (setupWrite op s) t := by
  rw [setupWrite_opened hc]
  exact runsTo_transact hport ha hans

/-- The pointer set of a running operation, made and answered. -/
theorem runsTo_htSetPointer {s t : State} {op : Instr} {k : Nat} {a : Int × List Byte} {rest : List (Int × List Byte)}
    (hport : s.port = .idle) (hc : s.chH = .opened) (ha : s.io.answers = a :: rest)
    (hans : answer op k (.transport a.1 a.2) ((s.exchanged [pointerExchange s.cfg] rest).moveTo op k) = some t) :
    runsTo 2 (setPointerBegin op k false addrHt s.cfg.htRegRead s) t := by
  rw [htSetPointer_opened hc]
  exact runsTo_transact hport ha hans

/-! ### Construction (44_humidity.md R130) -/

/-- `op` makes an HT construction at its exchanges 0 to 2 and then does `done`, or `failed` where the claim fails. -/
def BuildsHt (op : Instr) (done failed : State → State) : Prop :=
  ∀ k < 3, ∀ u, proceed op k u = htConstructProceed op k u ∧
    ∀ ans, answer op k ans u = htConstructAnswer op done failed k ans u

theorem buildsHt_htConstruct : BuildsHt .htConstruct (fun s => s.finish .ok)
    (fun s => s.finish (.busUnavailable .H .openBus)) := fun _ _ _ => ⟨rfl, fun _ => rfl⟩

section

variable {s : State} {op : Instr} {done failed : State → State} {a₁ a₂ : Int × List Byte} {rest : List (Int × List Byte)}

/-- The setup write and the pointer set of a construction on the open channel. -/
theorem runsTo_htBuild (hb : BuildsHt op done failed) (hr : s.atRest) (hc : s.chH = .opened)
    (ha : s.io.answers = a₁ :: a₂ :: rest) :
    runsTo 5 (setupWrite op s)
      (done (((s.setHt ⟨.configured, s.ht.ready⟩).exchanged [setupExchange s.cfg, pointerExchange s.cfg] rest).moveTo op 2)) := by
  have ⟨hport, hclaim⟩ := hr
  refine runsTo_trans (n := 2) (m := 3) (runsTo_setupWrite hport hc ha ((hb 1 (by decide) _).2 _)) ?_
  refine runsTo_step (step_proceed hport hclaim rfl (hb 2 (by decide) _).1) ?_
  refine runsTo_htSetPointer (a := a₂) hport hc rfl (((hb 2 (by decide) _).2 _).trans ?_)
  simp [htConstructAnswer]

/-- The claim of a construction, granted, and its two programs. -/
theorem runsTo_htBuild_claimed (hb : BuildsHt op done failed) (hr : s.atRest) {claims : List Bool}
    (hcl : s.io.claims = true :: claims) (ha : s.io.answers = a₁ :: a₂ :: rest) :
    runsTo 8 (s.claimBus op 0)
      (done (((((s.claimed claims).setChan .H .opened).setHt ⟨.configured, false⟩).exchanged
        [setupExchange s.cfg, pointerExchange s.cfg] rest).moveTo op 2)) := by
  refine runsTo_trans (n := 2) (m := 6) (runsTo_claimBus hr hcl ((hb 0 (by decide) _).2 _)) ?_
  refine runsTo_step (step_proceed hr.1 hr.2 rfl (hb 1 (by decide) _).1) ?_
  exact runsTo_htBuild hb hr rfl ha

end

/-- Settles O37: the construction's exchanges, with HT_CONSTRUCT finishing with Ok when it has constructed. -/
theorem htConstructSetsUpThenPoints : Obligations.HtConstructSetsUpThenPoints := by
  intro s a₁ a₂ rest hq hht ha first second sends claimed
  obtain ⟨hseq, hr⟩ := hq
  have hfirst : shapeW s.cfg.escapeWriteLength addrHt s.cfg.htRegControl [s.cfg.htSetup0, s.cfg.htSetup1] = first :=
    shapeW_pair ..
  have hsends : [setupExchange s.cfg, pointerExchange s.cfg] = sends := by
    rw [setupExchange, hfirst]
    rfl
  rw [← hsends]
  refine ⟨fun hb claims hcl => ⟨?_, ?_⟩, fun hc => ?_⟩
  · exact congrArg _ ((htConstructBegin_free hht _).trans (openBegin_closed hb _ _ _))
  · exact runsTo_of_finish (runsTo_htBuild_claimed buildsHt_htConstruct hr hcl ha) hseq
  · intro sent
    have hsent : setupWrite .htConstruct (s.setHtReady false) = sent :=
      (setupWrite_opened (s := s.setHtReady false) hc _).trans (congrArg _ hfirst)
    refine ⟨congrArg _ ((htConstructBegin_free hht _).trans ((openBegin_opened (ch := .H) hc _ _ _).trans hsent)), ?_⟩
    rw [← hsent]
    exact runsTo_of_finish (runsTo_htBuild (s := s.setHtReady false) buildsHt_htConstruct hr hc ha) hseq

/-! ### Readiness and the raw fetch (44_humidity.md R132, R133) -/

theorem htReadiness_decodeResult (st : Int) (d : List Byte) : htReadiness (decodeResult st d) = decide (0 ≤ st) := by
  by_cases h : st < 0
  · have h0 : ¬ 0 ≤ st := by omega
    simp [decodeResult, h, h0, htReadiness]
  · have h0 : 0 ≤ st := by omega
    simp [decodeResult, h, h0, htReadiness]

theorem Config.htReadyLen_range {c : Config} (h : c.wf = true) : 1 ≤ c.htReadyLen ∧ c.htReadyLen ≤ 255 := by
  simp only [Config.wf, Bool.and_eq_true, decide_eq_true_eq] at h
  exact h.1

/-- Settles O38: the split read of HT_READY_LEN bytes, whose status sign is also the latch. -/
theorem htReadinessIsTheStatusSign : Obligations.HtReadinessIsTheStatusSign := by
  refine fun s => ⟨rfl, fun h => congrArg _ (htGuard_fault h _ _), fun hq hwf hht hc st d rest ha => ?_⟩
  obtain ⟨hseq, hport, -⟩ := hq
  obtain ⟨hmin, hmax⟩ := Config.htReadyLen_range hwf
  intro prog trace sent
  have hsent : htIsReadyBegin .htIsReady 0 s = sent :=
    (htGuard_configured hht _ _).trans (htRead_opened hc _ _ hmin hmax)
  refine ⟨congrArg _ hsent, ?_⟩
  rw [← htReadiness_decodeResult st d]
  have hrun : runsTo 2 sent _ := runsTo_transact (op := .htIsReady) (k := 0) hport ha rfl
  exact runsTo_of_finish (s := (s.exchanged [.transact s.cfg.busId prog] rest).setHtReady (htReadiness (decodeResult st d)))
    hrun hseq

theorem htFetchBegin_notReady {s : State} (hht : s.ht.st = .configured) (h : s.ht.ready = false) (op : Instr) (k : Nat)
    (notReady : State → State) : htFetchBegin op k notReady s = notReady s := by
  simp [htFetchBegin, htGuard_configured hht, h]

theorem htFetchBegin_ready {s : State} (hht : s.ht.st = .configured) (h : s.ht.ready = true) (op : Instr) (k : Nat)
    (notReady : State → State) : htFetchBegin op k notReady s =
      readAfterPointerBegin op k false addrHt htDataLen (s.setHtReady false) := by
  simp [htFetchBegin, htGuard_configured hht, h]

/-- Settles O39: past the guard `htFetchBegin` tests the latch alone, and clears it before the split read. -/
theorem htFetchNeedsAndClearsTheLatch : Obligations.HtFetchNeedsAndClearsTheLatch := by
  refine fun s => ⟨rfl, fun h => congrArg _ (htGuard_fault h _ _), fun hht hready => ?_,
    fun hq hht hready hc st d rest ha => ?_⟩
  · exact congrArg _ (htFetchBegin_notReady hht hready _ _ _)
  · obtain ⟨hseq, hport, -⟩ := hq
    intro prog trace sent
    have hsent : htFetchBegin .htFetchRaw 0 (fun s => s.finish (.fetch .notReady)) s = sent :=
      (htFetchBegin_ready hht hready _ _ _).trans
        (htRead_opened (s := s.setHtReady false) hc _ _ (by decide) (by decide))
    refine ⟨congrArg _ hsent, ?_⟩
    rw [← fetchResult_decodeResult]
    have hrun : runsTo 2 sent _ := runsTo_transact (s := s.setHtReady false) (op := .htFetchRaw) (k := 0) hport ha rfl
    exact runsTo_of_finish (s := (s.setHtReady false).exchanged [.transact s.cfg.busId prog] rest) hrun hseq

/-! ### Rounding (44_humidity.md R131) -/

/-- `k` is an integer nearest to `q`, and the even one where two are equally near. -/
def IsNearestEven (q : Rat) (k : Int) : Prop := |q - k| ≤ 1 / 2 ∧ (|q - k| = 1 / 2 → k % 2 = 0)

/-- No integer lies between a number and the integer nearest to it. -/
theorem IsNearestEven.le_of_cast_le {q : Rat} {k a : Int} (h : IsNearestEven q k) (ha : (a : Rat) ≤ q) : a ≤ k := by
  have hk : q - k ≤ 1 / 2 := (abs_le.mp h.1).2
  have hlt : (a : Rat) < ((k + 1 : Int) : Rat) := by
    push_cast
    linarith
  exact Int.lt_add_one_iff.mp (Int.cast_lt.mp hlt)

theorem IsNearestEven.le_of_le_cast {q : Rat} {k b : Int} (h : IsNearestEven q k) (hb : q ≤ (b : Rat)) : k ≤ b := by
  have hk : -(1 / 2) ≤ q - k := (abs_le.mp h.1).1
  have hlt : (k : Rat) < ((b + 1 : Int) : Rat) := by
    push_cast
    linarith
  exact Int.lt_add_one_iff.mp (Int.cast_lt.mp hlt)

/-- Being nearest to a fraction, without the division: twice the rest of the numerator is compared with the denominator. -/
theorem isNearestEven_div_iff {d : Nat} (hd : 0 < d) (n k : Int) :
    IsNearestEven ((n : Rat) / d) k ↔ 2 * |n - d * k| ≤ d ∧ (2 * |n - d * k| = d → k % 2 = 0) := by
  have hd' : (0 : Rat) < d := by exact_mod_cast hd
  have habs : |(n : Rat) / d - k| = ((|n - d * k| : Int) : Rat) / d := by
    rw [Int.cast_abs, div_sub' hd'.ne', abs_div, abs_of_pos hd']
    push_cast
    rfl
  rw [IsNearestEven, habs, div_le_div_iff₀ hd' two_pos, div_eq_div_iff hd'.ne' two_ne_zero, one_mul, mul_comm]
  norm_cast

theorem roundHalfEven_isNearestEven {d : Nat} (hd : 0 < d) (n : Int) :
    IsNearestEven ((n : Rat) / d) (roundHalfEven n d) := by
  rw [isNearestEven_div_iff hd]
  have hr : n - d * (n / d) = n % d := (Int.emod_def _ _).symm
  have hr' : n - d * (n / d + 1) = n % d - d := by rw [← hr]; ring
  have hpos : 0 ≤ n % d := Int.emod_nonneg _ (by omega)
  have hlt : n % d < d := Int.emod_lt_of_pos _ (by omega)
  have hdown : |n % d| = n % d := abs_of_nonneg hpos
  have hup : |n % d - d| = d - n % d := by rw [abs_of_neg (by omega)]; ring
  unfold roundHalfEven
  dsimp only
  split_ifs with hbelow habove heven
  · rw [hr, hdown]; omega
  · rw [hr', hup]; omega
  · rw [hr, hdown]; omega
  · rw [hr', hup]; omega

theorem tenths_isNearestEven (q : Rat) : IsNearestEven (10 * q) (tenths q) := by
  have hq : 10 * q = ((10 * q.num : Int) : Rat) / q.den := by
    rw [Int.cast_mul, mul_div_assoc, Rat.num_div_den]
    rfl
  rw [hq]
  exact roundHalfEven_isNearestEven q.den_pos _

theorem round1_eq_tenths_div (q : Rat) : round1 q = (tenths q : Rat) / 10 := Rat.mkRat_eq_div _ _

/-! ### Conversions and raw decoders (44_humidity.md R134 to R138) -/

theorem htTemperatureExact_eq (x : Nat) : htTemperatureExact x = (x : Rat) / 65536 * 165 - 40 := by
  rw [htTemperatureExact, Rat.mkRat_eq_div]
  push_cast
  ring

theorem htHumidityExact_eq (x : Nat) : htHumidityExact x = (x : Rat) / 65536 * 100 := by
  rw [htHumidityExact, Rat.mkRat_eq_div]
  push_cast
  ring

/-- Settles O40: the tenths of the exact value, whose bounds are integers and so bound the rounded value too. -/
theorem htConversionsRoundHalfEvenToTenths : Obligations.HtConversionsRoundHalfEvenToTenths := by
  intro hi lo s nearest x
  have h0 : 0 ≤ x / 65536 := by positivity
  have h1 : x / 65536 ≤ 1 := by
    have hx : x ≤ 65536 := Nat.cast_le_ofNat.mpr (hi ++ lo).isLt.le
    linarith
  have ht := tenths_isNearestEven (x / 65536 * 165 - 40)
  have hh := tenths_isNearestEven (x / 65536 * 100)
  refine ⟨rfl, rfl, ⟨_, ht, ht.le_of_cast_le ?_, ht.le_of_le_cast ?_, ?_⟩, ⟨_, hh, hh.le_of_cast_le ?_, hh.le_of_le_cast ?_, ?_⟩⟩
  · push_cast; linarith
  · push_cast; linarith
  · rw [← round1_eq_tenths_div, ← htTemperatureExact_eq, ← be16_cons]
    rfl
  · push_cast; linarith
  · push_cast; linarith
  · rw [← round1_eq_tenths_div, ← htHumidityExact_eq, ← be16_cons]
    rfl

theorem htDecoded_of_length {raw : List Byte} (h : raw.length = 4) (q : Rat) : htDecoded raw q = .avail q := if_pos h

theorem htDecoded_of_length_ne {raw : List Byte} (h : raw.length ≠ 4) (q : Rat) : htDecoded raw q = .unavailable := if_neg h

/-- Settles O41: on four bytes `htDecoded` gives the conversion of a half, and on another length it does not look at the value. -/
theorem htRawDecodersConvertTheirHalves : Obligations.HtRawDecodersConvertTheirHalves := by
  intro s returns
  have hvalue {i : Instr} {v w : Value} (hi : exec i s = .next (s.finish (.value w))) (hw : w = v) : returns i (.value v) :=
    hw ▸ hi
  refine ⟨fun _ => ⟨rfl, rfl⟩, fun b₀ b₁ b₂ b₃ => ⟨htTemperature (be16 [b₀, b₁]), htHumidity (be16 [b₂, b₃]), ?_⟩,
    fun raw hne => ⟨hvalue rfl (htDecoded_of_length_ne hne _), hvalue rfl (htDecoded_of_length_ne hne _)⟩⟩
  exact ⟨rfl, hvalue rfl (htDecoded_of_length rfl _), rfl, hvalue rfl (htDecoded_of_length rfl _)⟩

end Sys2Proof.Machine

/-! ## The measurements

The five measurements share one loop. An attempt from the loop's head is run once, for either driver, up to its readiness test's
or its fetch's answer; what follows is a failed attempt or the close, and each statement reads off what those leave. -/

namespace Sys2Proof.Machine

variable {s t u : State} {q : Quantity} {k : Nat} {st st' : Int} {d d' : List Byte} {rest : List (Int × List Byte)}

/-! ### The five operations -/

theorem exec_op (q : Quantity) (s : State) : exec q.op s = .next (measureBegin q s) := by cases q <;> rfl

theorem answer_op (q : Quantity) (k : Nat) (ans : Answer) (s : State) : answer q.op k ans s = measureAnswer q k ans s := by
  cases q <;> rfl

theorem proceed_op (q : Quantity) (k : Nat) (s : State) : proceed q.op k s = measureProceed q k s := by cases q <;> rfl

theorem answer_op_readinessTest (q : Quantity) (st : Int) (d : List Byte) (s : State) :
    answer q.op (pollStep q.sensor) (.transport st d) s = some (pollAnswer q st d s) := by
  simp [answer_op, measureAnswer]

theorem answer_op_fetch (q : Quantity) (st : Int) (d : List Byte) (s : State) :
    answer q.op (pollStep q.sensor + 1) (.transport st d) s = some (fetchAnswer q st d s) := by
  simp [answer_op, measureAnswer]

theorem proceed_op_loopHead (q : Quantity) (s : State) : proceed q.op (pollStep q.sensor) s = loopHead q s := by
  simp [proceed_op, measureProceed]

theorem proceed_op_fetch (q : Quantity) (s : State) :
    proceed q.op (pollStep q.sensor + 1) s = some (fetchBegin q (s.setPhase .fetch)) := by
  simp [proceed_op, measureProceed]

/-! ### The construction -/

theorem measureBegin_claims (hb : s.bothClosed) (hn : ¬ driverConfigured q s) :
    measureBegin q s = (s.setPhase .construct).claimBus q.op 0 := by
  cases hq : q.sensor <;> simp only [driverConfigured, hq] at hn <;> simp only [measureBegin, constructBegin, hq]
  · exact (ptConstructBegin_free (s := s.setPhase .construct) hn _).trans
      (openBegin_closed (s := s.setPhase .construct) hb _ _ _)
  · exact (htConstructBegin_free (s := s.setPhase .construct) hn _).trans
      (openBegin_closed (s := s.setPhase .construct) hb _ _ _)

theorem answer_op_claimFailed (q : Quantity) (s : State) :
    answer q.op 0 (.claim false) s = some (s.finish (.measure (.error .busUnavailable q.sensor .openBus))) := by
  cases q <;> rfl

/-- Settles O44: the construction claims the bus, and on a failed claim's answer the measurement only gives its result. -/
theorem failedClaimEndsAMeasurementWithBusUnavailable : Obligations.FailedClaimEndsAMeasurementWithBusUnavailable :=
  fun q s _ hq hb hn hcl => ⟨_, (exec_op q s).trans (congrArg _ (measureBegin_claims hb hn)),
    runsTo_claimBus_finish (s := s.setPhase .construct) hq hcl fun u => answer_op_claimFailed q u⟩

theorem buildsPt_op (hq : q.sensor = .PT) : BuildsPt q.op q.mode (constructed q) (constructFailed q) := by
  intro k hk u
  have hk' : k < pollStep .PT := hk
  exact ⟨by simp [proceed_op, measureProceed, hk', constructProceed, hq],
    fun ans => by simp [answer_op, measureAnswer, hk', constructAnswer, hq]⟩

theorem buildsHt_op (hq : q.sensor = .HT) : BuildsHt q.op (constructed q) (constructFailed q) := by
  intro k hk u
  have hk' : k < pollStep .HT := hk
  exact ⟨by simp [proceed_op, measureProceed, hk', constructProceed, hq],
    fun ans => by simp [answer_op, measureAnswer, hk', constructAnswer, hq]⟩

/-! ### The driver of a measurement -/

/-- The channel of a measurement's driver (42_channel.md R107). -/
def Sensor.channel : Sensor → Channel
  | .PT => .P
  | .HT => .H

/-- The driver is Configured on its Open channel, and its programs are within the ranges of 30_encoding.md R65. -/
structure Driven (q : Quantity) (s : State) : Prop where
  configured : driverConfigured q s
  opened : s.chan q.sensor.channel = .opened
  readyLen : q.sensor = .HT → 1 ≤ s.cfg.htReadyLen ∧ s.cfg.htReadyLen ≤ 255

theorem State.Sound.driven (h : s.Sound) (hc : driverConfigured q s) : Driven q s := by
  refine ⟨hc, ?_, fun _ => Config.htReadyLen_range h.config⟩
  cases hq : q.sensor <;> simp only [driverConfigured, hq] at hc
  · exact h.ptOpen hc
  · exact h.htOpen hc

/-- The latch of a measurement's driver set to `b`. -/
def State.setReady (q : Quantity) (b : Bool) (s : State) : State :=
  (s.setPt (match q.sensor with | .PT => { s.pt with ready := b } | .HT => s.pt)).setHt
    (match q.sensor with | .PT => s.ht | .HT => { s.ht with ready := b })

@[simp] theorem State.setReady_cfg (q : Quantity) (b : Bool) (s : State) : (s.setReady q b).cfg = s.cfg := rfl
@[simp] theorem State.setReady_chP (q : Quantity) (b : Bool) (s : State) : (s.setReady q b).chP = s.chP := rfl
@[simp] theorem State.setReady_chH (q : Quantity) (b : Bool) (s : State) : (s.setReady q b).chH = s.chH := rfl
@[simp] theorem State.setReady_port (q : Quantity) (b : Bool) (s : State) : (s.setReady q b).port = s.port := rfl
@[simp] theorem State.setReady_claim (q : Quantity) (b : Bool) (s : State) : (s.setReady q b).claim = s.claim := rfl
@[simp] theorem State.setReady_seq (q : Quantity) (b : Bool) (s : State) : (s.setReady q b).seq = s.seq := rfl
@[simp] theorem State.setReady_m (q : Quantity) (b : Bool) (s : State) : (s.setReady q b).m = s.m := rfl
@[simp] theorem State.setReady_faults (q : Quantity) (b : Bool) (s : State) : (s.setReady q b).faults = s.faults := rfl
@[simp] theorem State.setReady_refused (q : Quantity) (b : Bool) (s : State) : (s.setReady q b).refused = s.refused := rfl
@[simp] theorem State.setReady_io (q : Quantity) (b : Bool) (s : State) : (s.setReady q b).io = s.io := rfl

theorem State.setReady_of_PT (hq : q.sensor = .PT) (b : Bool) (s : State) : s.setReady q b = s.setPtReady b := by
  rw [setReady, hq]
  rfl

theorem State.setReady_of_HT (hq : q.sensor = .HT) (b : Bool) (s : State) : s.setReady q b = s.setHtReady b := by
  rw [setReady, hq]
  rfl

theorem driverReady_setReady (q : Quantity) (b : Bool) (s : State) : driverReady q (s.setReady q b) = b := by
  cases hq : q.sensor <;> simp [driverReady, State.setReady, hq]

theorem driverConfigured_setReady (q : Quantity) (b : Bool) (s : State) :
    driverConfigured q (s.setReady q b) ↔ driverConfigured q s := by
  cases hq : q.sensor <;> simp [driverConfigured, State.setReady, hq]

theorem State.setReady_setReady (q : Quantity) (b b' : Bool) (s : State) :
    (s.setReady q b).setReady q b' = s.setReady q b' := by
  cases hq : q.sensor <;> simp [setReady, hq] <;> rfl

theorem Driven.setReady (h : Driven q s) (b : Bool) : Driven q (s.setReady q b) :=
  ⟨(driverConfigured_setReady q b s).2 h.configured, h.opened, h.readyLen⟩

theorem Driven.setPhase (h : Driven q s) (p : Phase) : Driven q (s.setPhase p) := ⟨h.configured, h.opened, h.readyLen⟩

theorem Driven.exchanged (h : Driven q s) (xs : List Exchange) (rest : List (Int × List Byte)) :
    Driven q (s.exchanged xs rest) := ⟨h.configured, h.opened, h.readyLen⟩

theorem Driven.setFails (h : Driven q s) (n : Nat) : Driven q (s.setFails n) := ⟨h.configured, h.opened, h.readyLen⟩

theorem Driven.moveTo (h : Driven q s) (op : Instr) (k : Nat) : Driven q (s.moveTo op k) :=
  ⟨h.configured, h.opened, h.readyLen⟩

/-! ### Its reads -/

/-- The program of a measurement's readiness test. -/
def readinessProgram (q : Quantity) (c : Config) : List Byte :=
  match q.sensor with
  | .PT => shapeRC addrPt c.ptRegStatus ptStatusLen
  | .HT => shapeSR addrHt c.htReadyLen

/-- The program of a measurement's fetch. -/
def fetchProgram (q : Quantity) (c : Config) : List Byte :=
  match q.sensor with
  | .PT => shapeRC addrPt c.ptRegData ptDataLen
  | .HT => shapeSR addrHt htDataLen

theorem readinessExchange_eq (q : Quantity) (c : Config) :
    readinessExchange q c = .transact c.busId (readinessProgram q c) := by
  cases q <;> rfl

theorem fetchExchange_eq (q : Quantity) (c : Config) : fetchExchange q c = .transact c.busId (fetchProgram q c) := by
  cases q <;> rfl

theorem Driven.isReadyBegin_eq (h : Driven q s) :
    isReadyBegin q s = s.transact q.op (pollStep q.sensor) (readinessProgram q s.cfg) := by
  obtain ⟨hc, ho, hl⟩ := h
  unfold isReadyBegin readinessProgram
  cases hq : q.sensor <;> simp only [driverConfigured, hq, Sensor.channel] at hc ho <;> dsimp only
  · exact (ptGuard_configured hc _ _).trans (ptRead_opened ho _ _ _ (by decide) (by decide))
  · exact (htGuard_configured hc _ _).trans (htRead_opened ho _ _ (hl hq).1 (hl hq).2)

theorem Driven.fetchBegin_eq (h : Driven q s) (hready : driverReady q s = true) :
    fetchBegin q s = (s.setReady q false).transact q.op (pollStep q.sensor + 1) (fetchProgram q s.cfg) := by
  obtain ⟨hc, ho, -⟩ := h
  unfold fetchBegin fetchProgram
  cases hq : q.sensor <;> simp only [driverConfigured, driverReady, hq, Sensor.channel] at hc ho hready <;> dsimp only
  · rw [State.setReady_of_PT hq]
    exact (ptFetchBegin_ready hc hready _ _ _).trans
      (ptRead_opened (s := s.setPtReady false) ho _ _ _ (by decide) (by decide))
  · rw [State.setReady_of_HT hq]
    exact (htFetchBegin_ready hc hready _ _ _).trans
      (htRead_opened (s := s.setHtReady false) ho _ _ (by decide) (by decide))

/-- What the readiness test of a measurement reads from its answer. -/
def readiness (q : Quantity) (st : Int) (d : List Byte) : Bool :=
  match q.sensor with
  | .PT => ptReadiness (decodeResult st d)
  | .HT => htReadiness (decodeResult st d)

theorem pollAnswer_eq (q : Quantity) (st : Int) (d : List Byte) (s : State) :
    pollAnswer q st d s = if readiness q st d = true then (s.setReady q true).moveTo q.op (pollStep q.sensor + 1)
      else failedAttempt q (s.setReady q false) := by
  have h : pollAnswer q st d s = if readiness q st d = true then
      (s.setReady q (readiness q st d)).moveTo q.op (pollStep q.sensor + 1)
      else failedAttempt q (s.setReady q (readiness q st d)) := by
    unfold pollAnswer readiness
    cases hq : q.sensor <;> simp only [driverReady, hq]
    · rw [State.setReady_of_PT hq]; rfl
    · rw [State.setReady_of_HT hq]; rfl
  rw [h]
  cases readiness q st d <;> rfl

/-- A fetch whose data decodes ends the measurement; any other is a failed attempt, in the phase where it failed. -/
theorem fetchAnswer_done {v : Rat} (hst : 0 ≤ st) (hv : q.decode d = .avail v) (s : State) :
    fetchAnswer q st d s = closeWith q (.measure (.done v)) (s.setPhase .close) := by
  have h : ¬ st < 0 := by omega
  simp only [fetchAnswer, fetchResult_decodeResult, h, if_false, hv, decoded]
  rfl

theorem fetchAnswer_failed (hph : s.m.phase = .fetch) (h : st < 0 ∨ q.decode d = .unavailable) :
    ∃ ph, (ph = .fetch ∨ ph = .decode) ∧ fetchAnswer q st d s = failedAttempt q (s.setPhase ph) := by
  by_cases hst : st < 0
  · refine ⟨.fetch, .inl rfl, ?_⟩
    have hs : s.setPhase .fetch = s := by rw [← hph]; rfl
    rw [hs]
    simp only [fetchAnswer, fetchResult_decodeResult, hst, if_true]
  · refine ⟨.decode, .inr rfl, ?_⟩
    simp only [fetchAnswer, fetchResult_decodeResult, hst, if_false, h.resolve_left hst, decoded]

/-! ### One attempt, from the loop's head (45_measure.md R150) -/

/-- A measurement at its loop's head, before a readiness test. -/
structure AtLoopHead (q : Quantity) (s : State) : Prop where
  driven : Driven q s
  seq : s.seq = .exec q.op (pollStep q.sensor)
  atRest : s.atRest
  phase : s.m.phase = .construct ∨ s.m.phase = .sleep

theorem State.moveTo_of_seq {op : Instr} (h : s.seq = .exec op k) : s.moveTo op k = s := by
  rw [moveTo, ← h]

theorem State.Inv.attempting (h : s.Inv) (hseq : s.seq = .exec q.op (pollStep q.sensor)) : attempting q s := by
  have hplaced : measurePosition q (pollStep q.sensor) s := by
    simpa only [State.wellPlaced, hseq, position_op] using h.placed
  obtain ⟨hk, -⟩ | ⟨-, hc, hmore, -⟩ | ⟨hk, -⟩ := hplaced
  · omega
  · exact ⟨hc, hmore⟩
  · omega

theorem State.Inv.atLoopHead (h : s.Inv) (hseq : s.seq = .exec q.op (pollStep q.sensor)) (hr : s.atRest)
    (hph : s.m.phase = .construct ∨ s.m.phase = .sleep) : AtLoopHead q s :=
  ⟨h.sound.driven (h.attempting hseq).1, hseq, hr, hph⟩

/-- An attempt has made the exchanges `xs` and stands in the phase `ph`, with the latch clear. -/
def State.attempted (q : Quantity) (ph : Phase) (xs : List Exchange) (rest : List (Int × List Byte)) (s : State) : State :=
  ((s.setReady q false).setPhase ph).exchanged xs rest

section

variable (q : Quantity) (ph : Phase) (xs : List Exchange) (rest : List (Int × List Byte)) (s : State)

@[simp] theorem State.attempted_cfg : (s.attempted q ph xs rest).cfg = s.cfg := rfl
@[simp] theorem State.attempted_chP : (s.attempted q ph xs rest).chP = s.chP := rfl
@[simp] theorem State.attempted_chH : (s.attempted q ph xs rest).chH = s.chH := rfl
@[simp] theorem State.attempted_port : (s.attempted q ph xs rest).port = s.port := rfl
@[simp] theorem State.attempted_claim : (s.attempted q ph xs rest).claim = s.claim := rfl
@[simp] theorem State.attempted_seq : (s.attempted q ph xs rest).seq = s.seq := rfl
@[simp] theorem State.attempted_m : (s.attempted q ph xs rest).m = ⟨ph, s.m.fails⟩ := rfl
@[simp] theorem State.attempted_faults : (s.attempted q ph xs rest).faults = s.faults := rfl
@[simp] theorem State.attempted_refused : (s.attempted q ph xs rest).refused = s.refused := rfl
@[simp] theorem State.attempted_io : (s.attempted q ph xs rest).io =
    { s.io with answers := rest, trace := s.io.trace ++ xs } := rfl

end

theorem AtLoopHead.loopHead_eq (h : AtLoopHead q s) : loopHead q s = some (isReadyBegin q (s.setPhase .poll)) := by
  obtain h | h := h.phase <;> simp only [loopHead, h]

theorem AtLoopHead.runsTo_pollAnswer (h : AtLoopHead q s) (ha : s.io.answers = (st, d) :: rest) :
    runsTo 3 s (pollAnswer q st d ((s.setPhase .poll).exchanged [readinessExchange q s.cfg] rest)) := by
  obtain ⟨hport, hclaim⟩ := h.atRest
  refine runsTo_step (step_proceed hport hclaim h.seq ((proceed_op_loopHead q s).trans h.loopHead_eq)) ?_
  rw [(h.driven.setPhase .poll).isReadyBegin_eq]
  refine runsTo_transact hport ha ((answer_op_readinessTest ..).trans ?_)
  rw [State.moveTo_of_seq (s := (s.setPhase .poll).exchanged _ rest) h.seq, readinessExchange_eq]
  rfl

/-- The fetch of a measurement that stands before it with the latch set. -/
theorem Driven.runsTo_fetchAnswer (h : Driven q s) (hseq : s.seq = .exec q.op (pollStep q.sensor + 1)) (hr : s.atRest)
    (hready : driverReady q s = true) (ha : s.io.answers = (st, d) :: rest) :
    runsTo 3 s (fetchAnswer q st d (s.attempted q .fetch [fetchExchange q s.cfg] rest)) := by
  obtain ⟨hport, hclaim⟩ := hr
  refine runsTo_step (step_proceed hport hclaim hseq (proceed_op_fetch q s)) ?_
  rw [(h.setPhase .fetch).fetchBegin_eq hready]
  refine runsTo_transact hport ha ((answer_op_fetch ..).trans ?_)
  rw [State.moveTo_of_seq (s := ((s.setPhase .fetch).setReady q false).exchanged _ rest) hseq, fetchExchange_eq]
  rfl

/-- The test is ready, and the fetch follows. -/
theorem AtLoopHead.runsTo_fetchAnswer (h : AtLoopHead q s) (ha : s.io.answers = (st, d) :: (st', d') :: rest)
    (hready : readiness q st d = true) :
    runsTo 6 s (fetchAnswer q st' d' ((s.attempted q .fetch [readinessExchange q s.cfg, fetchExchange q s.cfg] rest).moveTo
      q.op (pollStep q.sensor + 1))) := by
  have hrun := h.runsTo_pollAnswer ha
  rw [pollAnswer_eq, if_pos hready] at hrun
  have hdriven := (((h.driven.setPhase .poll).exchanged [readinessExchange q s.cfg] ((st', d') :: rest)).setReady true).moveTo
    q.op (pollStep q.sensor + 1)
  have hfetch := hdriven.runsTo_fetchAnswer rfl h.atRest (driverReady_setReady q true _) rfl
  have hstate : (((s.setReady q true).attempted q .fetch [readinessExchange q s.cfg] ((st', d') :: rest)).exchanged
      [fetchExchange q s.cfg] rest).moveTo q.op (pollStep q.sensor + 1) = (s.attempted q .fetch
      [readinessExchange q s.cfg, fetchExchange q s.cfg] rest).moveTo q.op (pollStep q.sensor + 1) := by
    simp [State.attempted, State.setReady_setReady]
  rw [← hstate]
  exact runsTo_trans (n := 3) (m := 3) hrun hfetch

/-- A fetch whose data decodes. -/
theorem AtLoopHead.runsTo_done {v : Rat} (h : AtLoopHead q s) (ha : s.io.answers = (st, d) :: (st', d') :: rest)
    (hready : readiness q st d = true) (hst : 0 ≤ st') (hv : q.decode d' = .avail v) :
    runsTo 6 s (closeWith q (.measure (.done v)) ((s.attempted q .close [readinessExchange q s.cfg, fetchExchange q s.cfg]
      rest).moveTo q.op (pollStep q.sensor + 1))) := by
  have hrun := h.runsTo_fetchAnswer ha hready
  rwa [fetchAnswer_done hst hv] at hrun

theorem Driven.attempted (h : Driven q s) (ph : Phase) (xs : List Exchange) (rest : List (Int × List Byte)) :
    Driven q (s.attempted q ph xs rest) := ((h.setReady false).setPhase ph).exchanged xs rest

/-! ### The end of a measurement -/

/-- What closing the driver of `s` with the result `r` leaves. -/
structure ClosedWith (q : Quantity) (r : Result) (s t : State) : Prop where
  quiet : s.atRest → t.quiet
  bothClosed : t.bothClosed
  driver : driverSt q t = .closed
  ready : driverReady q t = false
  m : t.m = s.m
  faults : t.faults = s.faults
  refused : t.refused = s.refused
  io : t.io = { s.io with result := some r, trace := s.io.trace ++ [.release] }

theorem Driven.closeWith_PT (h : Driven q s) (hq : q.sensor = .PT) (r : Result) :
    closeWith q r s = ((s.release.setChan .P .closed).setPt ⟨.closed, .none, false⟩).finish r := by
  obtain ⟨hc, ho, -⟩ := h
  simp only [driverConfigured, hq, Sensor.channel] at hc ho
  simpa only [closeWith, hq] using ptCloseWith_configured r s hc ho

theorem Driven.closeWith_HT (h : Driven q s) (hq : q.sensor = .HT) (r : Result) :
    closeWith q r s = ((s.release.setChan .H .closed).setHt ⟨.closed, false⟩).finish r := by
  obtain ⟨hc, ho, -⟩ := h
  simp only [driverConfigured, hq, Sensor.channel] at hc ho
  simpa only [closeWith, hq] using htCloseWith_configured r s hc ho

theorem Driven.closedWith (h : Driven q s) (hone : ¬ (s.chP = .opened ∧ s.chH = .opened)) (r : Result) :
    ClosedWith q r s (closeWith q r s) := by
  have ho := h.opened
  cases hq : q.sensor <;> simp only [hq, Sensor.channel, State.chan] at ho
  · have hH : s.chH = .closed := closed_of_ne_opened fun hH => hone ⟨ho, hH⟩
    rw [h.closeWith_PT hq]
    constructor
    case driver | ready => simp [driverSt, driverReady, hq]
    exacts [fun hr => ⟨rfl, hr⟩, ⟨rfl, hH⟩, rfl, rfl, rfl, rfl]
  · have hP : s.chP = .closed := closed_of_ne_opened fun hP => hone ⟨hP, ho⟩
    rw [h.closeWith_HT hq]
    constructor
    case driver | ready => simp [driverSt, driverReady, hq]
    exacts [fun hr => ⟨rfl, hr⟩, ⟨hP, rfl⟩, rfl, rfl, rfl, rfl]

/-! ### Failed attempts -/

/-- In `n` steps an attempt from `s` has failed, with the exchanges `xs` made. -/
def FailsIn (q : Quantity) (s : State) (n : Nat) (xs : List Exchange) (rest : List (Int × List Byte)) : Prop :=
  ∃ ph k, (ph = .poll ∨ ph = .fetch ∨ ph = .decode) ∧
    runsTo n s (failedAttempt q ((s.attempted q ph xs rest).moveTo q.op k))

theorem AtLoopHead.failsIn_test (h : AtLoopHead q s) (ha : s.io.answers = (st, d) :: rest)
    (hready : readiness q st d = false) : FailsIn q s 3 [readinessExchange q s.cfg] rest := by
  refine ⟨.poll, pollStep q.sensor, .inl rfl, ?_⟩
  have hrun := h.runsTo_pollAnswer ha
  rw [pollAnswer_eq, if_neg (by simp [hready])] at hrun
  rwa [State.moveTo_of_seq (s := s.attempted q .poll _ rest) h.seq]

theorem AtLoopHead.failsIn_fetch (h : AtLoopHead q s) (ha : s.io.answers = (st, d) :: (st', d') :: rest)
    (hready : readiness q st d = true) (hf : st' < 0 ∨ q.decode d' = .unavailable) :
    FailsIn q s 6 [readinessExchange q s.cfg, fetchExchange q s.cfg] rest := by
  have hrun := h.runsTo_fetchAnswer ha hready
  obtain ⟨ph, hph, heq⟩ := fetchAnswer_failed (s := (s.attempted q .fetch _ rest).moveTo _ _) rfl hf
  rw [heq] at hrun
  exact ⟨ph, _, .inr hph, hrun⟩

/-- Below the bound the failure is counted, and the Sleep leads back to the loop's head. -/
theorem FailsIn.sleeps {n : Nat} {xs : List Exchange} (hf : FailsIn q s n xs rest) (h : AtLoopHead q s)
    (hmore : pollsExhausted s.cfg.maxPolls (s.m.fails + 1) = false) :
    runsTo (n + 1) s ((s.attempted q .sleep xs rest).setFails (s.m.fails + 1)) := by
  obtain ⟨ph, k, hph, hrun⟩ := hf
  obtain ⟨hend, -⟩ | ⟨-, heq⟩ := failedAttempt_cases q ((s.attempted q ph xs rest).moveTo q.op k)
  · exact absurd (hmore.symm.trans hend) (by simp)
  rw [heq] at hrun
  refine runsTo_trans hrun (runsTo_one (step_proceed (i := q.op) (k := pollStep q.sensor) (by simp [h.atRest.1])
    (by simp [h.atRest.2]) rfl ((proceed_op_loopHead ..).trans ?_)))
  have hseq : ((s.attempted q .sleep xs rest).setFails (s.m.fails + 1)).seq = .exec q.op (pollStep q.sensor) := by
    simp [h.seq]
  rw [← State.moveTo_of_seq hseq]
  obtain rfl | rfl | rfl := hph <;> rfl

/-- At the bound the driver is closed. -/
theorem FailsIn.timesOut {n : Nat} {xs : List Exchange} (hf : FailsIn q s n xs rest) (h : AtLoopHead q s)
    (hone : ¬ (s.chP = .opened ∧ s.chH = .opened)) (hend : pollsExhausted s.cfg.maxPolls (s.m.fails + 1) = true) :
    ∃ t, runsTo n s t ∧ ClosedWith q (.measure (.error .timeout q.sensor .poll))
      ((s.attempted q .close xs rest).setFails (s.m.fails + 1)) t := by
  obtain ⟨ph, k, -, hrun⟩ := hf
  obtain ⟨-, heq⟩ | ⟨hmore, -⟩ := failedAttempt_cases q ((s.attempted q ph xs rest).moveTo q.op k)
  · rw [heq] at hrun
    have hclosed := (((h.driven.attempted .close xs rest).setFails (s.m.fails + 1)).moveTo q.op k).closedWith hone
      (.measure (.error .timeout q.sensor .poll))
    exact ⟨_, hrun, hclosed.quiet, hclosed.bothClosed, hclosed.driver, hclosed.ready, hclosed.m, hclosed.faults,
      hclosed.refused, hclosed.io⟩
  · exact absurd (hend.symm.trans hmore) (by simp)

/-- Settles O46: an attempt that fails in the test or in the fetch goes on as `FailsIn.sleeps` says. -/
theorem failedAttemptCountsAndSleeps : Obligations.FailedAttemptCountsAndSleeps := by
  intro q s st st' d d' rest hinv hseq hr hph hmore ready slept
  have hready : ready = readiness q st d := rfl
  have head := hinv.atLoopHead hseq hr hph
  have hslept (xs : List Exchange) : slept ((s.attempted q .sleep xs rest).setFails (s.m.fails + 1)) xs :=
    ⟨rfl, rfl, hr, ((head.driven.attempted ..).setFails _).configured, driverReady_setReady q false _, rfl, rfl, rfl, rfl, rfl,
      rfl, rfl⟩
  rw [hready]
  exact ⟨fun ha hn => ⟨_, (head.failsIn_test ha hn).sleeps head hmore, hslept _⟩,
    fun ha hready hf => ⟨_, (head.failsIn_fetch ha hready hf).sleeps head hmore, hslept _⟩⟩

/-- Settles O47: as O46, and at the bound the attempt goes on as `FailsIn.timesOut` says. -/
theorem lastFailedAttemptTimesOut : Obligations.LastFailedAttemptTimesOut := by
  intro q s st st' d d' rest hinv hseq hr hph hend ready timedOut
  have hready : ready = readiness q st d := rfl
  have head := hinv.atLoopHead hseq hr hph
  have htimedOut {n : Nat} {xs : List Exchange} (hf : FailsIn q s n xs rest) : ∃ t, runsTo n s t ∧ timedOut t xs := by
    obtain ⟨t, hrun, hc⟩ := hf.timesOut head hinv.oneOpen hend
    have hio := hc.io
    exact ⟨t, hrun, hc.m, hc.quiet hr, hc.bothClosed, hc.driver, hc.ready, hc.faults, hc.refused, by rw [hio], by rw [hio]; rfl,
      by rw [hio]; rfl⟩
  rw [hready]
  exact ⟨fun ha hn => htimedOut (head.failsIn_test ha hn), fun ha hready hf => htimedOut (head.failsIn_fetch ha hready hf)⟩

/-! ### Bounded polling -/

theorem exists_step_of_runsTo_succ {n : Nat} (h : runsTo (n + 1) s t) : ∃ u, step s = .next u ∧ runsTo n u t := by
  unfold runsTo at h
  simp only [Host.Core.run] at h
  cases hs : core.step s with
  | next u => rw [hs] at h; exact ⟨u, hs, h⟩
  | fault f => simp [hs] at h
  | refused r => simp [hs] at h

theorem inv_of_runsTo {n : Nat} (h : s.Inv) (hrun : runsTo n s t) : t.Inv := by
  induction n generalizing s with
  | zero => exact next_inj hrun ▸ h
  | succ n ih =>
    obtain ⟨u, hs, hrun'⟩ := exists_step_of_runsTo_succ hrun
    exact ih (stepKeepsTheInvariant s u h hs) hrun'

/-- The measurement from `s` ends within `n` steps. -/
def EndsWithin (n : Nat) (s : State) : Prop :=
  ∃ m t r, m ≤ n ∧ runsTo m s t ∧ t.quiet ∧ t.bothClosed ∧ t.io.result = some (.measure r)

theorem ClosedWith.endsWithin {n m : Nat} {r : Measure} (h : ClosedWith q (.measure r) u t) (hr : u.atRest) (hm : m ≤ n)
    (hrun : runsTo m s t) : EndsWithin n s :=
  ⟨m, t, r, hm, hrun, h.quiet hr, h.bothClosed, by rw [h.io]⟩

theorem EndsWithin.of_runsTo {m n : Nat} (hrun : runsTo m s u) (h : EndsWithin n u) : EndsWithin (m + n) s := by
  obtain ⟨m', t, r, hm, hrun', hend⟩ := h
  exact ⟨m + m', t, r, by omega, runsTo_trans hrun hrun', hend⟩

theorem EndsWithin.mono {m n : Nat} (h : EndsWithin m s) (hmn : m ≤ n) : EndsWithin n s := by
  obtain ⟨m', t, r, hm, hend⟩ := h
  exact ⟨m', t, r, hm.trans hmn, hend⟩

/-- With two answers at hand an attempt ends the measurement or fails. -/
theorem AtLoopHead.endsWithin_or_failsIn (h : AtLoopHead q s) (hone : ¬ (s.chP = .opened ∧ s.chH = .opened))
    (ha : 2 ≤ s.io.answers.length) : EndsWithin 6 s ∨
      ∃ n xs rest, n ≤ 6 ∧ s.io.answers.length ≤ rest.length + 2 ∧ FailsIn q s n xs rest := by
  match ha' : s.io.answers, ha with
  | (st, d) :: (st', d') :: rest, _ =>
    cases hready : readiness q st d with
    | false => exact .inr ⟨3, _, _, by decide, by simp, h.failsIn_test ha' hready⟩
    | true =>
      by_cases hf : st' < 0 ∨ q.decode d' = .unavailable
      · exact .inr ⟨6, _, _, le_rfl, by simp, h.failsIn_fetch ha' hready hf⟩
      · rw [not_or] at hf
        obtain ⟨hst, hv⟩ := hf
        cases hd : q.decode d' with
        | unavailable => exact absurd hd hv
        | avail v =>
          have hclosed := ((h.driven.attempted .close [readinessExchange q s.cfg, fetchExchange q s.cfg] rest).moveTo q.op
            (pollStep q.sensor + 1)).closedWith hone (.measure (.done v))
          exact .inl (hclosed.endsWithin h.atRest le_rfl (h.runsTo_done ha' hready (by omega) hd))

/-- Each failed attempt leaves one attempt fewer, and at the loop's head of a state of the invariant at least one is left. -/
theorem endsWithin_of_answers {n k : Nat} (hinv : s.Inv) (h : AtLoopHead q s) (hk : s.cfg.maxPolls = .bound k)
    (hn : k - s.m.fails = n) (ha : 2 * n ≤ s.io.answers.length) : EndsWithin (7 * n) s := by
  induction n generalizing s with
  | zero =>
    have hmore := (hinv.attempting h.seq).2
    simp only [pollsExhausted, hk, decide_eq_false_iff_not] at hmore
    omega
  | succ n ih =>
    obtain hend | ⟨m, xs, rest, hm, hrest, hf⟩ := h.endsWithin_or_failsIn hinv.oneOpen (by omega)
    · exact hend.mono (by omega)
    cases hlast : pollsExhausted s.cfg.maxPolls (s.m.fails + 1) with
    | true =>
      obtain ⟨t, hrun, hc⟩ := hf.timesOut h hinv.oneOpen hlast
      exact hc.endsWithin h.atRest (by omega) hrun
    | false =>
      have hrun := hf.sleeps h hlast
      have hinv' := inv_of_runsTo hinv hrun
      have hleft : k - (s.m.fails + 1) = n := by omega
      have hrest' := ih hinv' (hinv'.atLoopHead h.seq h.atRest (.inr rfl)) hk hleft (by simp; omega)
      exact (hrest'.of_runsTo hrun).mono (by omega)

/-- Settles O48, by induction on the attempts left. -/
theorem boundedPollingEndsTheMeasurement : Obligations.BoundedPollingEndsTheMeasurement :=
  fun _ _ _ hinv hk hseq hr hph ha => endsWithin_of_answers hinv (hinv.atLoopHead hseq hr hph) hk rfl ha

/-! ### Every exit (45_measure.md R157) -/

theorem driverConfigured_iff (q : Quantity) (s : State) : driverConfigured q s ↔ driverSt q s = .configured := by
  cases q <;> rfl

/-- If nothing runs in `t`, then the measurement that ran in `s` has closed everything and given its result. -/
def ExitsClosed (q : Quantity) (s t : State) : Prop :=
  t.seq = .idle → t.bothClosed ∧ ¬ driverConfigured q t ∧ t.faults = s.faults ∧ t.refused = s.refused ∧
    ∃ r, t.io.result = some (.measure r)

theorem exitsClosed_of_running (h : t.seq ≠ .idle) : ExitsClosed q s t := fun ht => absurd ht h

theorem ClosedWith.exitsClosed {r : Measure} (h : ClosedWith q (.measure r) s t) : ExitsClosed q s t := fun _ =>
  ⟨h.bothClosed, by rw [driverConfigured_iff, h.driver]; simp, h.faults, h.refused, r, by rw [h.io]⟩

theorem exitsClosed_failedAttempt (h : Driven q s) (hone : ¬ (s.chP = .opened ∧ s.chH = .opened)) :
    ExitsClosed q s (failedAttempt q s) := by
  obtain ⟨-, heq⟩ | ⟨-, heq⟩ := failedAttempt_cases q s <;> rw [heq]
  · exact (((h.setFails (s.m.fails + 1)).setPhase .close).closedWith hone _).exitsClosed
  · exact exitsClosed_of_running (by simp)

theorem exitsClosed_pollAnswer (h : Driven q s) (hone : ¬ (s.chP = .opened ∧ s.chH = .opened)) (st : Int) (d : List Byte) :
    ExitsClosed q s (pollAnswer q st d s) := by
  rw [pollAnswer_eq]
  split
  · exact exitsClosed_of_running (by simp)
  · exact exitsClosed_failedAttempt (s := s.setReady q false) (h.setReady false) hone

theorem exitsClosed_fetchAnswer (h : Driven q s) (hone : ¬ (s.chP = .opened ∧ s.chH = .opened)) (st : Int) (d : List Byte) :
    ExitsClosed q s (fetchAnswer q st d s) := by
  unfold fetchAnswer decoded
  split
  · split
    · exact ((h.setPhase .close).closedWith hone _).exitsClosed
    · exact exitsClosed_failedAttempt (s := s.setPhase .decode) (h.setPhase .decode) hone
  · exact exitsClosed_failedAttempt h hone
  · exact exitsClosed_failedAttempt h hone

/-! A construction goes on with every answer but a failed claim's, and that one it takes with nothing opened. -/

theorem openAnswer_idle {ch : Channel} {ok : Bool} {opened failed : State → State} (hopened : ∀ u, (opened u).seq ≠ .idle)
    (h : (openAnswer ch ok opened failed s).seq = .idle) : ok = false ∧ openAnswer ch ok opened failed s = failed s := by
  cases ok with
  | true => exact absurd h (hopened _)
  | false => exact ⟨rfl, rfl⟩

theorem constructAnswer_idle {ans : Answer} (h : constructAnswer q k ans s = some t) (ht : t.seq = .idle) :
    ans = .claim false ∧ t = constructFailed q s := by
  unfold constructAnswer ptConstructAnswer htConstructAnswer at h
  split at h <;> split at h <;> cases h
  case h_1.refl =>
    obtain ⟨rfl, heq⟩ := openAnswer_idle (by simp) ht
    exact ⟨rfl, heq⟩
  case h_1.refl =>
    obtain ⟨rfl, heq⟩ := openAnswer_idle (by simp) ht
    exact ⟨rfl, heq⟩
  all_goals simp [constructed] at ht

theorem buildPosition.free (h : buildPosition q k s) (hclaim : s.claim ≠ .idle) : s.bothClosed ∧ ¬ driverConfigured q s := by
  unfold buildPosition at h
  unfold driverConfigured
  split <;> rename_i hq <;> simp only [hq] at h
  · obtain ⟨-, -, hn, hb⟩ | ⟨-, hidle, -⟩ | ⟨-, hidle, -⟩ := h
    · exact ⟨hb, hn⟩
    all_goals exact absurd hidle hclaim
  · obtain ⟨-, -, hn, hb⟩ | ⟨-, hidle, -⟩ := h
    · exact ⟨hb, hn⟩
    · exact absurd hidle hclaim

theorem buildPosition.opened (h : buildPosition q k s) (hs : s.Sound) (hr : s.atRest) : s.chan q.sensor.channel = .opened := by
  unfold buildPosition at h
  cases hq : q.sensor <;> simp only [hq] at h
  · obtain ⟨-, hc, -⟩ | ⟨-, -, -, hopen⟩ | ⟨-, -, hpt⟩ := h
    · exact absurd hr.2 hc.2
    · exact hopen
    · exact hs.ptOpen hpt
  · obtain ⟨-, hc, -⟩ | ⟨-, -, -, hopen⟩ := h
    · exact absurd hr.2 hc.2
    · exact hopen

theorem constructProceed_running (hc : s.chan q.sensor.channel = .opened) (h : constructProceed q k s = some t) :
    t.seq ≠ .idle := by
  unfold constructProceed ptConstructProceed htConstructProceed at h
  split at h <;> rename_i hq <;> simp only [hq, Sensor.channel, State.chan] at hc <;> split at h <;> cases h
  · rw [dataflagWrite, ptWrite_opened hc]; simp
  · rw [selectOs, ptWrite_opened hc]; simp
  · rw [selectRun, ptWrite_opened hc]; simp
  · rw [setupWrite_opened hc]; simp
  · rw [htSetPointer_opened hc]; simp

/-! Only an answer ends a measurement. -/

theorem loopHead_running (h : Driven q s) (hseq : s.seq ≠ .idle) (hl : loopHead q s = some t) : t.seq ≠ .idle := by
  have htest : (isReadyBegin q (s.setPhase .poll)).seq ≠ .idle := by
    rw [(h.setPhase .poll).isReadyBegin_eq]
    simp
  unfold loopHead at hl
  split at hl <;> cases hl
  exacts [htest, htest, hseq, hseq, hseq]

theorem measureProceed_running (h : s.Sound) (hr : s.atRest) (hseq : s.seq = .exec q.op k) (hpos : measurePosition q k s)
    (hp : measureProceed q k s = some t) : t.seq ≠ .idle := by
  obtain ⟨hk, hbuild, -⟩ | ⟨rfl, hc, -⟩ | ⟨rfl, hc, -, ⟨-, hready, -⟩ | ⟨ht, -⟩⟩ := hpos
  · exact constructProceed_running (hbuild.opened h hr) (by simpa only [measureProceed, hk, if_true] using hp)
  · exact loopHead_running (h.driven hc) (by simp [hseq]) (by simpa [measureProceed] using hp)
  · obtain rfl : fetchBegin q (s.setPhase .fetch) = t := by simpa [measureProceed] using hp
    rw [((h.driven hc).setPhase .fetch).fetchBegin_eq hready]
    simp
  · exact absurd hr.1 ht.1

theorem exitsClosed_measureAnswer_transport (h : s.Sound) (hpos : measurePosition q k s)
    (ha : measureAnswer q k (.transport st d) { s with port := .idle } = some t) : ExitsClosed q s t := by
  have hs : State.Sound { s with port := .idle } := h.of_soundPart rfl
  obtain ⟨hk, -⟩ | ⟨rfl, hc, -⟩ | ⟨rfl, hc, -⟩ := hpos
  · intro ht
    obtain ⟨hfailed, -⟩ := constructAnswer_idle (by simpa only [measureAnswer, hk, if_true] using ha) ht
    cases hfailed
  · obtain rfl : pollAnswer q st d { s with port := .idle } = t := by simpa [measureAnswer] using ha
    exact exitsClosed_pollAnswer (hs.driven hc) h.oneOpen st d
  · obtain rfl : fetchAnswer q st d { s with port := .idle } = t := by simpa [measureAnswer] using ha
    exact exitsClosed_fetchAnswer (hs.driven hc) h.oneOpen st d

theorem exitsClosed_measureAnswer_claim {ok : Bool} (hclaim : s.claim ≠ .idle) (hpos : measurePosition q k s)
    (ha : measureAnswer q k (.claim ok) { s with claim := .idle } = some t) : ExitsClosed q s t := by
  intro ht
  obtain ⟨hk, hbuild, -⟩ | ⟨rfl, -⟩ | ⟨rfl, -⟩ := hpos
  · obtain ⟨hb, hn⟩ := hbuild.free hclaim
    obtain ⟨-, rfl⟩ := constructAnswer_idle (by simpa only [measureAnswer, hk, if_true] using ha) ht
    exact ⟨hb, hn, rfl, rfl, _, rfl⟩
  · simp [measureAnswer] at ha
  · simp [measureAnswer] at ha

/-- Settles O49: the step consumed an answer, and it was a failed claim's or the measurement has closed its driver. -/
theorem measurementsCloseOnEveryExit : Obligations.MeasurementsCloseOnEveryExit := by
  intro q k s t hinv hseq hs
  change ExitsClosed q s t
  have hpos : measurePosition q k s := by simpa only [State.wellPlaced, hseq, position_op] using hinv.placed
  have hrun : s.seq ≠ .idle := by simp [hseq]
  obtain ⟨p, -, heq⟩ | ⟨st, d, -, heq⟩ | ⟨-, -, heq⟩ | ⟨ok, -, hc, heq⟩ | ⟨op, k', hp, hc, hseq', heq⟩ | ⟨-, -, hidle, -⟩ :=
    step_cases s
  · obtain rfl := next_inj (heq.symm.trans hs)
    exact exitsClosed_of_running (by unfold transportStep; split <;> exact hrun)
  · have ha : answer q.op k (.transport st d) { s with port := .idle } = some t := by
      simpa only [consumeTransport, hseq, orNoPosition_eq_next] using heq.symm.trans hs
    exact exitsClosed_measureAnswer_transport hinv.sound hpos ((answer_op ..).symm.trans ha)
  · obtain rfl := next_inj (heq.symm.trans hs)
    exact exitsClosed_of_running (by unfold claimStep; split <;> exact hrun)
  · have ha : answer q.op k (.claim ok) { s with claim := .idle } = some t := by
      simpa only [consumeClaim, hseq, orNoPosition_eq_next] using heq.symm.trans hs
    exact exitsClosed_measureAnswer_claim (by simp [hc]) hpos ((answer_op ..).symm.trans ha)
  · cases hseq.symm.trans hseq'
    have ha : proceed q.op k s = some t := orNoPosition_eq_next.1 (heq.symm.trans hs)
    exact exitsClosed_of_running (measureProceed_running hinv.sound ⟨hp, hc⟩ hseq hpos ((proceed_op ..).symm.trans ha))
  · exact absurd hidle hrun

/-! ### The decoded value: PT (45_measure.md R151 to R153) -/

theorem exists_quantity_of_PT {i : Instr} {m : Mode} {dec : List Byte → Value}
    (h : (i = .mPressure ∧ m = .barometric ∧ dec = ptPressure) ∨ (i = .mAltitude ∧ m = .altitude ∧ dec = ptAltitude) ∨
      (i = .mTemperaturePt ∧ m = .barometric ∧ dec = ptTemperature)) :
    ∃ q : Quantity, q.sensor = .PT ∧ i = q.op ∧ m = q.mode ∧ dec = q.decode := by
  obtain h | h | h := h
  exacts [⟨.pressure, rfl, h⟩, ⟨.altitude, rfl, h⟩, ⟨.temperaturePt, rfl, h⟩]

section

variable {a₁ a₂ a₃ : Int × List Byte} {b : Byte} {v : Rat}

theorem measureBegin_opened_PT (hq : q.sensor = .PT) (hc : s.chP = .opened) (hn : s.pt.st ≠ .configured) :
    measureBegin q s = dataflagWrite q.op ((s.setPhase .construct).setPtReady false) := by
  simp only [measureBegin, constructBegin, hq]
  exact (ptConstructBegin_free (s := s.setPhase .construct) hn _).trans
    (openBegin_opened (s := s.setPhase .construct) (ch := .P) hc _ _ _)

/-- The state at the loop's head that a PT construction leads to, apart from the exchanges. -/
def State.ptHead (q : Quantity) (s : State) : State :=
  { s with
    chP := .opened, pt := ⟨.configured, modeSelected q.mode, false⟩, seq := .exec q.op (pollStep .PT), m := ⟨.construct, 0⟩ }

theorem runsTo_ptHead_opened (hq : q.sensor = .PT) (hr : s.atRest) (hc : s.chP = .opened)
    (ha : s.io.answers = a₁ :: a₂ :: a₃ :: rest) :
    runsTo 8 (dataflagWrite q.op ((s.setPhase .construct).setPtReady false))
      ((s.ptHead q).exchanged (ptBuildExchanges s.cfg q.mode) rest) := by
  have hrun := runsTo_ptBuild (s := (s.setPhase .construct).setPtReady false) (buildsPt_op hq) hr hc ha
  rw [State.ptHead, ← hq, ← hc]
  exact hrun

theorem runsTo_ptHead_claimed (hq : q.sensor = .PT) (hr : s.atRest) {claims : List Bool}
    (hcl : s.io.claims = true :: claims) (ha : s.io.answers = a₁ :: a₂ :: a₃ :: rest) :
    runsTo 11 ((s.setPhase .construct).claimBus q.op 0)
      (((s.claimed claims).ptHead q).exchanged (ptBuildExchanges s.cfg q.mode) rest) := by
  have hrun := runsTo_ptBuild_claimed (s := s.setPhase .construct) (buildsPt_op hq) hr hcl ha
  rw [State.ptHead, ← hq]
  exact hrun

theorem atLoopHead_ptHead (hq : q.sensor = .PT) (hr : s.atRest) (xs : List Exchange) (rest : List (Int × List Byte)) :
    AtLoopHead q ((s.ptHead q).exchanged xs rest) where
  driven := ⟨by simp [driverConfigured, hq, State.ptHead], by rw [hq]; rfl, by simp [hq]⟩
  seq := by rw [hq]; rfl
  atRest := hr
  phase := .inl rfl

/-- A ready and well-decoding attempt. -/
theorem AtLoopHead.runsTo_done_PT (h : AtLoopHead q s) (hq : q.sensor = .PT)
    (ha : s.io.answers = (st, b :: d) :: (st', d') :: rest) (hst : 0 ≤ st) (hb : b.toNat.testBit 3 = true) (hst' : 0 ≤ st')
    (hv : q.decode d' = .avail v) :
    runsTo 6 s { s with
      chP := .closed, pt := ⟨.closed, .none, false⟩, seq := .idle, m := ⟨.close, s.m.fails⟩
      io := { s.io with
        answers := rest, result := some (.measure (.done v))
        trace := s.io.trace ++ [readinessExchange q s.cfg, fetchExchange q s.cfg, .release] } } := by
  have hready : readiness q st (b :: d) = true := by
    simp only [readiness, hq, ptReadiness_decodeResult, hst, hb, decide_true, Bool.and_self]
  have hrun := h.runsTo_done ha hready hst' hv
  rw [((h.driven.attempted ..).moveTo ..).closeWith_PT hq] at hrun
  simpa [State.attempted, State.setReady_of_PT hq, State.setPtReady, State.setPt, State.setPhase, State.exchanged, State.moveTo,
    State.release, State.record, State.setChan, State.finish] using hrun

end

/-- Settles O42: the construction's run to the loop's head, from either beginning, and the attempt's run from there. -/
theorem ptMeasurementsReturnTheDecodedValue : Obligations.PtMeasurementsReturnTheDecodedValue := by
  intro i m dec s rest hi bus mode first writes attempt claimed asked sent head
  obtain ⟨q, hq, rfl, rfl, rfl⟩ := exists_quantity_of_PT hi
  have hhead : head = s.ptHead q := by cases q <;> rfl
  have hattempt : [readinessExchange q s.cfg, fetchExchange q s.cfg, .release] = attempt := by
    simp only [readinessExchange, fetchExchange, hq]
    rfl
  have hasked (hb : s.bothClosed) (hn : s.pt.st ≠ .configured) : exec q.op s = .next asked :=
    (exec_op q s).trans (congrArg _ (measureBegin_claims hb (by simpa only [driverConfigured, hq] using hn)))
  rw [hhead]
  refine ⟨fun claims a₁ a₂ a₃ hquiet hb hn hcl ha => ⟨hasked hb hn, runsTo_ptHead_claimed hq hquiet.2 hcl ha⟩,
    fun a₁ a₂ a₃ hquiet hc hn ha => ?_, fun st st' b d raw v hst hb hst' hv => ⟨?_, ?_⟩⟩
  · have hsent : dataflagWrite q.op ((s.setPhase .construct).setPtReady false) = sent :=
      ptWrite_opened (s := (s.setPhase .construct).setPtReady false) hc ..
    refine ⟨(exec_op q s).trans (congrArg _ ((measureBegin_opened_PT hq hc hn).trans hsent)), ?_⟩
    rw [← hsent]
    exact runsTo_ptHead_opened hq hquiet.2 hc ha
  · intro claims a₁ a₂ a₃ hquiet hclosed hn hcl ha
    refine ⟨hasked hclosed hn, ?_⟩
    have hrun := runsTo_trans (runsTo_ptHead_claimed hq hquiet.2 hcl ha)
      ((atLoopHead_ptHead (s := s.claimed claims) hq hquiet.2 (ptBuildExchanges s.cfg q.mode)
        ((st, b :: d) :: (st', raw) :: rest)).runsTo_done_PT hq rfl hst hb hst' hv)
    simp only [← hattempt, hclosed.1, hquiet.1]
    exact hrun
  · intro hinv hseq hr hph ha
    rw [← hattempt]
    exact (hinv.atLoopHead (hq.symm ▸ hseq) hr hph).runsTo_done_PT hq ha hst hb hst' hv

/-! ### The decoded value: HT (45_measure.md R154, R155) -/

theorem exists_quantity_of_HT {i : Instr} {dec : List Byte → Value}
    (h : (i = .mHumidity ∧ dec = htRawHumidity) ∨ (i = .mTemperatureHt ∧ dec = htRawTemperature)) :
    ∃ q : Quantity, q.sensor = .HT ∧ i = q.op ∧ dec = q.decode := by
  obtain h | h := h
  exacts [⟨.humidity, rfl, h⟩, ⟨.temperatureHt, rfl, h⟩]

section

variable {a₁ a₂ : Int × List Byte} {v : Rat}

theorem measureBegin_opened_HT (hq : q.sensor = .HT) (hc : s.chH = .opened) (hn : s.ht.st ≠ .configured) :
    measureBegin q s = setupWrite q.op ((s.setPhase .construct).setHtReady false) := by
  simp only [measureBegin, constructBegin, hq]
  exact (htConstructBegin_free (s := s.setPhase .construct) hn _).trans
    (openBegin_opened (s := s.setPhase .construct) (ch := .H) hc _ _ _)

/-- As `State.ptHead`. -/
def State.htHead (q : Quantity) (s : State) : State :=
  { s with chH := .opened, ht := ⟨.configured, false⟩, seq := .exec q.op (pollStep .HT), m := ⟨.construct, 0⟩ }

theorem runsTo_htHead_opened (hq : q.sensor = .HT) (hr : s.atRest) (hc : s.chH = .opened)
    (ha : s.io.answers = a₁ :: a₂ :: rest) :
    runsTo 5 (setupWrite q.op ((s.setPhase .construct).setHtReady false))
      ((s.htHead q).exchanged [setupExchange s.cfg, pointerExchange s.cfg] rest) := by
  have hrun := runsTo_htBuild (s := (s.setPhase .construct).setHtReady false) (buildsHt_op hq) hr hc ha
  rw [State.htHead, ← hq, ← hc]
  exact hrun

theorem runsTo_htHead_claimed (hq : q.sensor = .HT) (hr : s.atRest) {claims : List Bool}
    (hcl : s.io.claims = true :: claims) (ha : s.io.answers = a₁ :: a₂ :: rest) :
    runsTo 8 ((s.setPhase .construct).claimBus q.op 0)
      (((s.claimed claims).htHead q).exchanged [setupExchange s.cfg, pointerExchange s.cfg] rest) := by
  have hrun := runsTo_htBuild_claimed (s := s.setPhase .construct) (buildsHt_op hq) hr hcl ha
  rw [State.htHead, ← hq]
  exact hrun

theorem atLoopHead_htHead (hq : q.sensor = .HT) (hwf : s.cfg.wf = true) (hr : s.atRest) (xs : List Exchange)
    (rest : List (Int × List Byte)) : AtLoopHead q ((s.htHead q).exchanged xs rest) where
  driven := ⟨by simp [driverConfigured, hq, State.htHead], by rw [hq]; rfl, fun _ => Config.htReadyLen_range hwf⟩
  seq := by rw [hq]; rfl
  atRest := hr
  phase := .inl rfl

/-- A ready and well-decoding attempt. -/
theorem AtLoopHead.runsTo_done_HT (h : AtLoopHead q s) (hq : q.sensor = .HT)
    (ha : s.io.answers = (st, d) :: (st', d') :: rest) (hst : 0 ≤ st) (hst' : 0 ≤ st') (hv : q.decode d' = .avail v) :
    runsTo 6 s { s with
      chH := .closed, ht := ⟨.closed, false⟩, seq := .idle, m := ⟨.close, s.m.fails⟩
      io := { s.io with
        answers := rest, result := some (.measure (.done v))
        trace := s.io.trace ++ [readinessExchange q s.cfg, fetchExchange q s.cfg, .release] } } := by
  have hready : readiness q st d = true := by simp only [readiness, hq, htReadiness_decodeResult, hst, decide_true]
  have hrun := h.runsTo_done ha hready hst' hv
  rw [((h.driven.attempted ..).moveTo ..).closeWith_HT hq] at hrun
  simpa [State.attempted, State.setReady_of_HT hq, State.setHtReady, State.setHt, State.setPhase, State.exchanged, State.moveTo,
    State.release, State.record, State.setChan, State.finish] using hrun

end

/-- Settles O43: as O42, with the HT driver's construction and attempt. -/
theorem htMeasurementsReturnTheDecodedValue : Obligations.HtMeasurementsReturnTheDecodedValue := by
  intro i dec s rest hi bus first setup attempt claimed asked sent head
  obtain ⟨q, hq, rfl, rfl⟩ := exists_quantity_of_HT hi
  have hattempt : [readinessExchange q s.cfg, fetchExchange q s.cfg, .release] = attempt := by
    simp only [readinessExchange, fetchExchange, hq]
    rfl
  have hasked (hb : s.bothClosed) (hn : s.ht.st ≠ .configured) : exec q.op s = .next asked :=
    (exec_op q s).trans (congrArg _ (measureBegin_claims hb (by simpa only [driverConfigured, hq] using hn)))
  refine ⟨fun claims a₁ a₂ hquiet hb hn hcl ha => ⟨hasked hb hn, runsTo_htHead_claimed hq hquiet.2 hcl ha⟩,
    fun a₁ a₂ hquiet hc hn ha => ?_, fun st st' d raw v hst hst' hv => ⟨?_, ?_⟩⟩
  · have hsent : setupWrite q.op ((s.setPhase .construct).setHtReady false) = sent :=
      setupWrite_opened (s := (s.setPhase .construct).setHtReady false) hc _
    refine ⟨(exec_op q s).trans (congrArg _ ((measureBegin_opened_HT hq hc hn).trans hsent)), ?_⟩
    rw [← hsent]
    exact runsTo_htHead_opened hq hquiet.2 hc ha
  · intro claims a₁ a₂ hquiet hclosed hn hwf hcl ha
    refine ⟨hasked hclosed hn, ?_⟩
    have hrun := runsTo_trans (runsTo_htHead_claimed hq hquiet.2 hcl ha)
      ((atLoopHead_htHead (s := s.claimed claims) hq hwf hquiet.2 [setupExchange s.cfg, pointerExchange s.cfg]
        ((st, d) :: (st', raw) :: rest)).runsTo_done_HT hq rfl hst hst' hv)
    simp only [← hattempt, hclosed.2, hquiet.1]
    exact hrun
  · intro hinv hseq hr hph ha
    rw [← hattempt]
    exact (hinv.atLoopHead (hq.symm ▸ hseq) hr hph).runsTo_done_HT hq ha hst hst' hv

end Sys2Proof.Machine

/-! ## Exceptions

What goes wrong in an operation is recorded or returned (60_exceptions.md R175 to R178): first the checks of a channel
transaction in their order, then the faults a measurement takes over from its construction, and last that from a state of the
invariant nothing stops the machine. -/

namespace Sys2Proof.Machine

/-! ### The order of a channel transaction's checks (R178) -/

/-- An encoder's tests: the address first, then the length, and past both it accepts. -/
structure TestsAddressThenLength (a : Nat) (lengthOk : Prop) (enc : Except Refusal (List Byte)) : Prop where
  badAddress : 128 ≤ a → enc = .error .badAddress
  badLength : a < 128 → ¬ lengthOk → enc = .error .badLength
  accepts : a < 128 → lengthOk → ∃ prog, enc = .ok prog

theorem encodeWrite_tests (e : Bool) (a : Nat) (r : Byte) (p : List Byte) :
    TestsAddressThenLength a (1 ≤ p.length ∧ p.length ≤ 254) (encodeWrite e a r p) where
  badAddress ha := if_pos ha
  badLength ha hl := (if_neg (by omega)).trans (if_pos (by omega))
  accepts ha hl := ⟨_, encodeWrite_of_range ha hl.1 hl.2⟩

theorem encodeReadComb_tests (a : Nat) (r : Byte) (l : Nat) :
    TestsAddressThenLength a (1 ≤ l ∧ l ≤ 254) (encodeReadComb a r l) where
  badAddress ha := if_pos ha
  badLength ha hl := (if_neg (by omega)).trans (if_pos (by omega))
  accepts ha hl := ⟨_, encodeReadComb_of_range ha hl.1 hl.2⟩

/-- The pointer program has no length to test. -/
theorem encodeSplitPtr_tests (a : Nat) (r : Byte) : TestsAddressThenLength a True (encodeSplitPtr a r) where
  badAddress ha := if_pos ha
  badLength _ hl := absurd trivial hl
  accepts ha _ := ⟨_, encodeSplitPtr_of_range ha⟩

theorem encodeSplitRead_tests (a l : Nat) : TestsAddressThenLength a (1 ≤ l ∧ l ≤ 255) (encodeSplitRead a l) where
  badAddress ha := if_pos ha
  badLength ha hl := (if_neg (by omega)).trans (if_pos (by omega))
  accepts ha hl := ⟨_, encodeSplitRead_of_range ha hl.1 hl.2⟩

/-- A payload of one byte passes the length test. -/
theorem encodeWrite_singleton_tests (e : Bool) (a : Nat) (r b : Byte) :
    TestsAddressThenLength a True (encodeWrite e a r [b]) := by
  simpa using encodeWrite_tests e a r [b]

theorem channelTransact_owned {ch : Channel} {s : State} (ho : s.owner ch = .configured) (op : Instr) (k : Nat) (code : Byte)
    (prog : List Byte) : channelTransact op k true ch code (.ok prog) s = s.fault (.channelOwned ch code) :=
  if_pos ⟨rfl, ho⟩

theorem channelTransact_notOpen {ch : Channel} {s : State} (ho : s.owner ch ≠ .configured) (hc : s.chan ch = .closed)
    (op : Instr) (k : Nat) (code : Byte) (prog : List Byte) :
    channelTransact op k true ch code (.ok prog) s = s.fault (.channelNotOpen ch code) := by
  simp [channelTransact, ho, hc]

/-- `t` is how a transaction of the Caller's ends in `s` where a check fails: the first one that fails, in R178's order, makes
the one record there is. -/
def EndsByFirstFailedCheck (s : State) (a : Nat) (ch : Channel) (code : Byte) (lengthOk : Prop) (t : State) : Prop :=
  (128 ≤ a → t = s.refuse .badAddress) ∧
  (a < 128 → ¬ lengthOk → t = s.refuse .badLength) ∧
  (a < 128 → lengthOk → s.owner ch = .configured → t = s.fault (.channelOwned ch code)) ∧
  (a < 128 → lengthOk → s.owner ch ≠ .configured → s.chan ch = .closed → t = s.fault (.channelNotOpen ch code))

/-- The encoder's tests come before the channel's own: ownership, then the Closed channel. -/
theorem channelTransact_endsByFirstFailedCheck {a : Nat} {lengthOk : Prop} {enc : Except Refusal (List Byte)}
    (h : TestsAddressThenLength a lengthOk enc) (op : Instr) (ch : Channel) (code : Byte) (s : State) :
    EndsByFirstFailedCheck s a ch code lengthOk (channelTransact op 0 true ch code enc s) := by
  refine ⟨fun ha => ?_, fun ha hl => ?_, fun ha hl ho => ?_, fun ha hl ho hc => ?_⟩
  · rw [h.badAddress ha]; rfl
  · rw [h.badLength ha hl]; rfl
  · obtain ⟨prog, hprog⟩ := h.accepts ha hl
    rw [hprog, channelTransact_owned ho]
  · obtain ⟨prog, hprog⟩ := h.accepts ha hl
    rw [hprog, channelTransact_notOpen ho hc]

/-- Settles O27: each of the five is a transaction that the Caller issues, with the tests of its own encoder. -/
theorem channelChecksComeInPriorityOrder : Obligations.ChannelChecksComeInPriorityOrder := fun _ _ _ _ _ _ _ =>
  ⟨⟨_, rfl, channelTransact_endsByFirstFailedCheck (encodeReadComb_tests ..) ..⟩,
    ⟨_, rfl, channelTransact_endsByFirstFailedCheck (encodeWrite_tests ..) ..⟩,
    ⟨_, rfl, channelTransact_endsByFirstFailedCheck (encodeWrite_singleton_tests ..) ..⟩,
    ⟨_, rfl, channelTransact_endsByFirstFailedCheck (encodeSplitPtr_tests ..) ..⟩,
    ⟨_, rfl, channelTransact_endsByFirstFailedCheck (encodeSplitRead_tests ..) ..⟩⟩

/-! ### A measurement's construction faults (R176, R177) -/

theorem measureBegin_PT {q : Quantity} (hq : q.sensor = .PT) (s : State) :
    measureBegin q s = ptConstructBegin q.op (s.setPhase .construct) := by
  simp only [measureBegin, constructBegin, hq]

theorem measureBegin_HT {q : Quantity} (hq : q.sensor = .HT) (s : State) :
    measureBegin q s = htConstructBegin q.op (s.setPhase .construct) := by
  simp only [measureBegin, constructBegin, hq]

/-- Settles O45: the phase is written, and the construction's guard or the other channel's test records its fault. -/
theorem measurementsInheritTheConstructionFaults : Obligations.MeasurementsInheritTheConstructionFaults := by
  intro q s
  rw [exec_op]
  cases hq : q.sensor with
  | PT =>
    simp only [driverConfigured, hq, measureBegin_PT hq]
    refine ⟨fun hc => ?_, fun hn hc hc' => ?_⟩
    · exact congrArg _ (ptConstructBegin_configured (s := s.setPhase .construct) hc _)
    · exact congrArg _ ((ptConstructBegin_free (s := s.setPhase .construct) hn _).trans
        (openBegin_other_opened (s := s.setPhase .construct) (ch := .P) hc hc' _ _ _))
  | HT =>
    simp only [driverConfigured, hq, measureBegin_HT hq]
    refine ⟨fun hc => ?_, fun hn hc hc' => ?_⟩
    · exact congrArg _ (htConstructBegin_configured (s := s.setPhase .construct) hc _)
    · exact congrArg _ ((htConstructBegin_free (s := s.setPhase .construct) hn _).trans
        (openBegin_other_opened (s := s.setPhase .construct) (ch := .H) hc hc' _ _ _))

/-! ### Nothing stops the machine (R177, R180)

`exec` stops at FLAGS alone, which no frame decodes to. A running operation has an arm for whatever reaches it at a position that
fits: in `proceed` with both ports idle, and in `answer` for the answer of the port that is not idle. Whether there is an arm
does not depend on the state `u` in which the answer is consumed. -/

variable {s : State} {i : Instr} {k : Nat} {q : Quantity}

theorem exists_exec_eq_next (h : i ≠ .tokFlags) (s : State) : ∃ t, exec i s = .next t := by
  cases i
  case tokFlags => exact absurd rfl h
  all_goals exact ⟨_, rfl⟩

theorem ne_tokFlags_of_decodeFrame {frame : List Byte} (h : decodeFrame frame = .ok i) : i ≠ .tokFlags := by
  rintro rfl
  obtain ⟨htok, -⟩ := decodedFrameIsTheOperationsFrame false frame _ h
  cases htok

theorem exists_commandStep_eq_next (s : State) : ∃ t, commandStep s = .next t := by
  unfold commandStep
  split
  · exact ⟨_, rfl⟩
  · split
    · exact ⟨_, rfl⟩
    next hd => exact exists_exec_eq_next (ne_tokFlags_of_decodeFrame hd) _

/-! #### Going on, both ports idle -/

theorem exists_ptConstructProceed (hr : s.atRest) (hpos : ptBuildPosition k s) (op : Instr) (m : Mode) :
    ∃ t, ptConstructProceed op m k s = some t := by
  obtain ⟨-, hclaiming, -⟩ | ⟨rfl, -⟩ | ⟨rfl | rfl, -⟩ := hpos
  · exact absurd hr.2 hclaiming.2
  all_goals exact ⟨_, rfl⟩

theorem exists_htConstructProceed (hr : s.atRest) (hpos : htBuildPosition k s) (op : Instr) :
    ∃ t, htConstructProceed op k s = some t := by
  obtain ⟨-, hclaiming, -⟩ | ⟨rfl | rfl, -⟩ := hpos
  · exact absurd hr.2 hclaiming.2
  all_goals exact ⟨_, rfl⟩

theorem exists_proceedSelect (hr : s.atRest) (hpos : selectPosition k s) (op : Instr) (m : Mode) :
    ∃ t, proceedSelect op m k s = some t := by
  obtain ⟨-, ⟨-, ht⟩ | ⟨rfl, -⟩⟩ := hpos
  · exact absurd hr.1 ht.1
  · exact ⟨_, rfl⟩

theorem exists_constructProceed (hr : s.atRest) (hpos : buildPosition q k s) : ∃ t, constructProceed q k s = some t := by
  unfold buildPosition at hpos
  unfold constructProceed
  split <;> rename_i hq <;> simp only [hq] at hpos
  · exact exists_ptConstructProceed hr hpos _ _
  · exact exists_htConstructProceed hr hpos _

theorem exists_loopHead (hph : s.m.phase ≠ .close) (q : Quantity) : ∃ t, loopHead q s = some t := by
  unfold loopHead
  split
  case h_6 hclose => exact absurd hclose hph
  all_goals exact ⟨_, rfl⟩

theorem exists_measureProceed (hr : s.atRest) (hpos : measurePosition q k s) : ∃ t, measureProceed q k s = some t := by
  obtain ⟨hk, hbuild, -⟩ | ⟨rfl, -, -, ⟨-, hph⟩ | ⟨ht, -⟩⟩ | ⟨rfl, -⟩ := hpos
  · simpa only [measureProceed, hk, if_true] using exists_constructProceed hr hbuild
  · rw [← proceed_op, proceed_op_loopHead]
    exact exists_loopHead hph q
  · exact absurd hr.1 ht.1
  · rw [← proceed_op, proceed_op_fetch]
    exact ⟨_, rfl⟩

theorem exists_proceed (hr : s.atRest) (hpos : position i k s) : ∃ t, proceed i k s = some t := by
  cases i
  case ptConstruct => exact exists_ptConstructProceed hr hpos _ _
  case htConstruct => exact exists_htConstructProceed hr hpos _
  case ptSelectAltitude | ptSelectBarometric => exact exists_proceedSelect hr hpos _ _
  case mPressure | mAltitude | mTemperaturePt | mHumidity | mTemperatureHt => exact exists_measureProceed hr hpos
  case chOpen =>
    obtain ⟨-, hclaiming, -⟩ := hpos
    exact absurd hr.2 hclaiming.2
  case chRead | chWrite | chWrite1 | pwSetPointer | pwReadAfterPointer | ptIsReady | ptFetchRaw | htIsReady | htFetchRaw =>
    obtain ⟨-, ht, -⟩ := hpos
    exact absurd hr.1 ht.1
  all_goals exact hpos.elim

/-! #### On an answer

An answer of the claim reaches an operation at its exchange 0, where it claims; one of the Transport reaches it at the others. -/

/-- The answer is that of a port of `s` that is not idle. -/
def Awaits (s : State) : Answer → Prop
  | .claim _ => s.claim ≠ .idle
  | .transport _ _ => s.port ≠ .idle

variable {ans : Answer}

theorem exists_ptConstructAnswer (ha : Awaits s ans) (hpos : ptBuildPosition k s) (op : Instr) (m : Mode)
    (done failed : State → State) (u : State) : ∃ t, ptConstructAnswer op m done failed k ans u = some t := by
  cases ans with
  | claim =>
    obtain ⟨rfl, -⟩ | ⟨-, hidle, -⟩ | ⟨-, hidle, -⟩ := hpos
    · exact ⟨_, rfl⟩
    all_goals exact absurd hidle ha
  | transport =>
    obtain ⟨-, hclaiming, -⟩ | ⟨rfl, -⟩ | ⟨rfl | rfl, -⟩ := hpos
    · exact absurd hclaiming.1 ha
    all_goals exact ⟨_, rfl⟩

theorem exists_htConstructAnswer (ha : Awaits s ans) (hpos : htBuildPosition k s) (op : Instr)
    (done failed : State → State) (u : State) : ∃ t, htConstructAnswer op done failed k ans u = some t := by
  cases ans with
  | claim =>
    obtain ⟨rfl, -⟩ | ⟨-, hidle, -⟩ := hpos
    · exact ⟨_, rfl⟩
    · exact absurd hidle ha
  | transport =>
    obtain ⟨-, hclaiming, -⟩ | ⟨rfl | rfl, -⟩ := hpos
    · exact absurd hclaiming.1 ha
    all_goals exact ⟨_, rfl⟩

theorem exists_constructAnswer (ha : Awaits s ans) (hpos : buildPosition q k s) (u : State) :
    ∃ t, constructAnswer q k ans u = some t := by
  unfold buildPosition at hpos
  unfold constructAnswer
  split <;> rename_i hq <;> simp only [hq] at hpos
  · exact exists_ptConstructAnswer ha hpos ..
  · exact exists_htConstructAnswer ha hpos ..

/-- With no claim being answered, the answer awaited is the Transport's. -/
theorem Awaits.of_claim_idle (ha : Awaits s ans) (hidle : s.claim = .idle) : ∃ st d, ans = .transport st d := by
  cases ans with
  | claim => exact absurd hidle ha
  | transport st d => exact ⟨st, d, rfl⟩

/-- With no program at the Transport, the answer awaited is the claim's. -/
theorem Awaits.of_port_idle (ha : Awaits s ans) (hidle : s.port = .idle) : ∃ ok, ans = .claim ok := by
  cases ans with
  | claim ok => exact ⟨ok, rfl⟩
  | transport => exact absurd hidle ha

theorem Awaits.not_atRest (ha : Awaits s ans) : ¬ s.atRest := by
  rintro ⟨hport, hclaim⟩
  cases ans with
  | claim => exact ha hclaim
  | transport => exact ha hport

theorem exists_answerSelect (ha : Awaits s ans) (hpos : selectPosition k s) (op : Instr) (m : Mode) (u : State) :
    ∃ t, answerSelect op m k ans u = some t := by
  obtain ⟨-, ⟨rfl, ht⟩ | ⟨rfl, hidle⟩⟩ := hpos
  · obtain ⟨st, d, rfl⟩ := ha.of_claim_idle ht.2
    exact ⟨_, rfl⟩
  · obtain ⟨st, d, rfl⟩ := ha.of_claim_idle hidle
    exact ⟨_, rfl⟩

theorem exists_measureAnswer (ha : Awaits s ans) (hpos : measurePosition q k s) (u : State) :
    ∃ t, measureAnswer q k ans u = some t := by
  obtain ⟨hk, hbuild, -⟩ | ⟨rfl, -, -, ⟨hr, -⟩ | ⟨ht, -⟩⟩ | ⟨rfl, -, -, ⟨hr, -⟩ | ⟨ht, -⟩⟩ := hpos
  · simpa only [measureAnswer, hk, if_true] using exists_constructAnswer ha hbuild u
  · exact absurd hr ha.not_atRest
  · obtain ⟨st, d, rfl⟩ := ha.of_claim_idle ht.2
    exact ⟨_, (answer_op ..).symm.trans (answer_op_readinessTest ..)⟩
  · exact absurd hr ha.not_atRest
  · obtain ⟨st, d, rfl⟩ := ha.of_claim_idle ht.2
    exact ⟨_, (answer_op ..).symm.trans (answer_op_fetch ..)⟩

theorem exists_answer (ha : Awaits s ans) (hpos : position i k s) (u : State) : ∃ t, answer i k ans u = some t := by
  cases i
  case chOpen =>
    obtain ⟨rfl, hc, -⟩ := hpos
    obtain ⟨ok, rfl⟩ := ha.of_port_idle hc.1
    exact ⟨_, rfl⟩
  case chRead | chWrite | chWrite1 | pwSetPointer | pwReadAfterPointer | ptIsReady | ptFetchRaw | htIsReady | htFetchRaw =>
    obtain ⟨rfl, ht, -⟩ := hpos
    obtain ⟨st, d, rfl⟩ := ha.of_claim_idle ht.2
    exact ⟨_, rfl⟩
  case ptConstruct => simpa only [answer, answerPtConstruct] using exists_ptConstructAnswer ha hpos ..
  case htConstruct => simpa only [answer, answerHtConstruct] using exists_htConstructAnswer ha hpos ..
  case ptSelectAltitude | ptSelectBarometric => exact exists_answerSelect ha hpos ..
  case mPressure | mAltitude | mTemperaturePt | mHumidity | mTemperatureHt => exact exists_measureAnswer ha hpos u
  all_goals exact hpos.elim

/-! #### Every step -/

theorem exists_orNoPosition_eq_next {o : Option State} (h : ∃ t, o = some t) : ∃ t, orNoPosition o = .next t :=
  h.imp fun _ => orNoPosition_eq_next.2

/-- A port that is not idle belongs to a running operation. -/
theorem State.wellPlaced.running (h : s.wellPlaced) (hr : ¬ s.atRest) : ∃ i k, s.seq = .exec i k ∧ position i k s := by
  unfold wellPlaced at h
  split at h
  · exact absurd h hr
  next i k hq => exact ⟨i, k, hq, h⟩

theorem exists_consumeTransport_eq_next {st : Int} {d : List Byte} (h : s.wellPlaced) (hp : s.port = .answered st d) :
    ∃ t, consumeTransport st d s = .next t := by
  have ha : Awaits s (.transport st d) := by simp [Awaits, hp]
  obtain ⟨i, k, hq, hpos⟩ := h.running ha.not_atRest
  simp only [consumeTransport, hq]
  exact exists_orNoPosition_eq_next (exists_answer ha hpos _)

theorem exists_consumeClaim_eq_next {ok : Bool} (h : s.wellPlaced) (hc : s.claim = .answered ok) :
    ∃ t, consumeClaim ok s = .next t := by
  have ha : Awaits s (.claim ok) := by simp [Awaits, hc]
  obtain ⟨i, k, hq, hpos⟩ := h.running ha.not_atRest
  simp only [consumeClaim, hq]
  exact exists_orNoPosition_eq_next (exists_answer ha hpos _)

/-- Settles O53: whichever agent moves, it has a next state, the Sequencer because its position fits the ports. -/
theorem stepNeverStopsUnderInvariant : Obligations.StepNeverStopsUnderInvariant := by
  intro s h
  obtain ⟨p, -, heq⟩ | ⟨st, d, hp, heq⟩ | ⟨-, -, heq⟩ | ⟨ok, -, hc, heq⟩ | ⟨op, k, hp, hc, hq, heq⟩ | ⟨-, -, -, heq⟩ :=
    step_cases s <;> rw [heq]
  · exact ⟨_, rfl⟩
  · exact exists_consumeTransport_eq_next h.placed hp
  · exact ⟨_, rfl⟩
  · exact exists_consumeClaim_eq_next h.placed hc
  · have hpos : position op k s := by simpa only [State.wellPlaced, hq] using h.placed
    exact exists_orNoPosition_eq_next (exists_proceed ⟨hp, hc⟩ hpos)
  · exact exists_commandStep_eq_next s

end Sys2Proof.Machine

/-! ## The state after reset (70_reset_and_hazards.md R190)

No channel is Open, no driver Configured and nothing runs, so the invariant asks only that the parameters have their types. -/

namespace Sys2Proof.Machine

theorem quiet_resetEvent (s : State) : (resetEvent s).quiet := ⟨rfl, rfl, rfl⟩

theorem sound_resetEvent {s : State} (hcfg : s.cfg.wf = true) : (resetEvent s).Sound where
  config := hcfg
  oneOpen := nofun
  ptOpen := nofun
  htOpen := nofun
  ptMode := fun _ => rfl
  ptReady := nofun
  htReady := nofun
  faultSet := List.nodup_nil
  refusedSet := List.nodup_nil

theorem inv_resetEvent {s : State} (hcfg : s.cfg.wf = true) : (resetEvent s).Inv :=
  (sound_resetEvent hcfg).inv_of_quiet (quiet_resetEvent s)

/-- The reference instance has its types (00_scope.md R10), so `State.reset` is one of the reset event's states. -/
theorem inv_reset : State.reset.Inv := inv_resetEvent (s := State.reset) (by decide)

/-- Settles O51: a quiet state with nothing Open or Configured meets the invariant, for whatever instance is well typed. -/
theorem resetMeetsTheInvariant : Obligations.ResetMeetsTheInvariant := ⟨inv_reset, fun _ => inv_resetEvent⟩

end Sys2Proof.Machine
